-- ==== Sys2Proof/Word.lean ====
section
/-! DEFINITION. The word types of the part: bytes, card numbers, node serials, part-clock seconds, and the
index types of its tables.

A station number 1..16 and a line address 1..16 are held as `Fin 16`, one less than the number; the number
itself appears on the wire only (`Machine/Bytes.lean`). -/

namespace Sys2Proof

/-- One byte of a host frame (R172) or of a station line frame (Chapter 8, section 8.2). -/
abbrev Byte := BitVec 8

/-- A 40-bit card number (R56). -/
abbrev CardNo := BitVec 40

/-- A 48-bit node serial (R14). -/
abbrev Serial := BitVec 48

/-- A 32-bit count of seconds: a part-clock or an elapsed-count reading (R188). -/
abbrev Seconds := BitVec 32

/-- A set of fractions: bit f stands for fraction f (section 10.5). -/
abbrev FractionSet := BitVec 5

/-- A set of station numbers: bit s - 1 stands for station s (section 10.5). -/
abbrev StationSet := BitVec 16

/-- A chamber number 0..63 (R1). -/
abbrev ChamberNo := Fin 64

/-- A station 1..16, held as its number less 1 (R14). -/
abbrev StationNo := Fin 16

/-- A line address 1..16, held as the address less 1 (R140). -/
abbrev AddrNo := Fin 16

/-- The slot 0..3 of a chamber within its station (R2). -/
abbrev SlotNo := Fin 4

/-- An account index 0..2047 (R58). -/
abbrev AccountNo := Fin 2048

end Sys2Proof
end

