-- ==== Sys2Proof/Syntax.lean ====
section
/-! DEFINITION. The commands the part takes: one constructor of `Instr` for every row of
spec/opcode_table.json, and the operand types they carry.

Three kinds of row: the starts and supplies (Chapter 11), the host's requests (Chapters 1 to 10), and the events
of the station line and of the part's deadlines (Chapters 3, 5, 7, 8 and 9). A host request carries its TAG and
its payload fields as the layouts of section 10.5 give them; a field keeps its raw width, so a value that the
owner refuses BAD_VALUE can be written. -/

namespace Sys2Proof

/-- The card fields that CARD PUT and CARD AMEND carry (section 10.5, bytes 0..11 of the card record). The
station scope is absent where bit 0 of the flags byte is clear. -/
structure CardFields where
  card    : CardNo
  account : BitVec 16
  rights  : Byte
  state   : Byte
  scope   : Option StationSet
  deriving DecidableEq, Repr

/-- The account fields of bytes 0..6 of the account record (section 10.5). -/
structure AccountFields where
  state     : Byte
  group     : Byte
  allowance : BitVec 16
  overdraft : Byte
  used      : BitVec 16
  deriving DecidableEq, Repr

/-- The fields that GROUP WRITE carries (R72, section 10.5). -/
structure GroupFields where
  value     : Byte
  groupMask : Byte
  fieldMask : Byte
  state     : Byte
  allowance : BitVec 16
  overdraft : Byte
  used      : BitVec 16
  deriving DecidableEq, Repr

/-- The class template fields that CLASS PUT carries after its slot number (section 10.5). -/
structure ClassFields where
  enabled : Bool
  value   : CardNo
  mask    : CardNo
  kind    : Byte
  rights  : Byte
  account : Option (BitVec 16)
  mode    : Byte
  deriving DecidableEq, Repr

/-- The configuration that CHAMBER SET carries after its chamber number (section 10.5). -/
structure ChamberFields where
  station    : Byte
  slot       : Byte
  fraction   : Byte
  profile    : Byte
  capacity   : BitVec 16
  drum       : Byte
  depth      : BitVec 16
  clearance  : BitVec 16
  request    : BitVec 16
  full       : BitVec 16
  tdown      : BitVec 16
  minQuality : Byte
  window     : Byte
  interval   : BitVec 16
  deriving DecidableEq, Repr

/-- The nine points of a PROFILE PUT (R16). -/
structure ProfileFields where
  p0 : BitVec 16
  p1 : BitVec 16
  p2 : BitVec 16
  p3 : BitVec 16
  p4 : BitVec 16
  p5 : BitVec 16
  p6 : BitVec 16
  p7 : BitVec 16
  p8 : BitVec 16
  deriving DecidableEq, Repr

/-- The site settings that SITE SET carries (R178, section 10.5). -/
structure SiteFields where
  mask         : Byte
  charged      : Byte
  window       : Byte
  censusPeriod : BitVec 16
  quietPeriod  : BitVec 16
  dormantLimit : BitVec 16
  visitWindow  : BitVec 16
  returnLimit  : BitVec 16
  clock        : Seconds
  deriving DecidableEq, Repr

/-- A host request, one constructor per request kind of the catalogue (section 10.3), with its payload. -/
inductive Request where
  | siteStatus
  | siteSet (f : SiteFields)
  | partRestart
  | cardPut (f : CardFields)
  | cardAmend (mask : Byte) (f : CardFields)
  | cardGet (card : CardNo)
  | cardRemove (card : CardNo)
  | cardScan (start : BitVec 16) (count : Byte)
  | accountPut (index : BitVec 16) (f : AccountFields)
  | accountAmend (index : BitVec 16) (mask : Byte) (f : AccountFields)
  | accountGet (index : BitVec 16)
  | groupWrite (f : GroupFields)
  | classPut (slot : Byte) (f : ClassFields)
  | classGet (slot : Byte)
  | chamberSet (chamber : Byte) (f : ChamberFields)
  | chamberGet (chamber : Byte)
  | chamberClear (chamber : Byte)
  | profilePut (profile : Byte) (f : ProfileFields)
  | profileGet (profile : Byte)
  | stationBind (station : Byte) (serial : Option Serial)
  | stationGet (station : Byte)
  | roundRead (start count : Byte)
  | roundAdd (chamber urgency : Byte)
  | roundDrop (chamber : Byte)
  | journalRead (start : BitVec 16) (count : Byte)
  | journalRelease (count : BitVec 16) (expected : Option Seconds)
  | lineCensus
  | lineSweep
  | lineDormant
  | lineWake
  | lineReset
  deriving DecidableEq, Repr

/-- How a line transaction ends (R138): a frame is received in its response window, given as its bytes after
the start mark (ADDR, CMD, LEN, payload, SUM), or the frame and its repeat have both gone unanswered. -/
inductive TxnEnd where
  | answered (frame : List Byte)
  | failed
  deriving DecidableEq, Repr

/-- The lift state of a slot report (R150). -/
inductive SlotLift where
  | atHome
  | out
  deriving DecidableEq, Repr, Inhabited

/-- The hatch state of a slot report (R150). -/
inductive SlotHatch where
  | shut
  | unlocked
  | serviceLocked
  deriving DecidableEq, Repr, Inhabited

/-- What one slot's report in a STATUS answer says (R150). The manual gives this content and no byte codes for it (DESIGN
CHOICE, assumption log entry 13). -/
structure SlotReport where
  lift  : SlotLift
  hatch : SlotHatch
  deriving DecidableEq, Repr, Inhabited

/-- How a STATUS transaction ends (R150, R153). `answered`: the bytes of the frame received, and what its four slot report
bytes say, for which the manual gives no codes (DESIGN CHOICE, assumption log entry 13). -/
inductive StatusEnd where
  | answered (frame : List Byte) (reports : Vector SlotReport 4)
  | failed
  deriving DecidableEq, Repr

/-- The commands of the part: one constructor per row of spec/opcode_table.json, in the table's order. -/
inductive Instr where
  /-- MAIN_POWER_UP. `markerGood`: the retention marker's record passes its check (R185). `cut`: where main power
  fails during the start, the number of start-up steps taken by then (R185, R186). -/
  | mainPowerUp (markerGood : Bool) (cut : Option Nat)
  /-- WARM_START, with `cut` as for `mainPowerUp`. -/
  | warmStart (cut : Option Nat)
  | mainPowerLoss
  | partClockWrap
  /-- HOST_FRAME_RECEIVED: these bytes arrive on HRX with no break of more than 5 ms between them. -/
  | hostFrameReceived (bytes : List Byte)
  | hostInterbyteTimeout
  | transmitEnd
  | siteStatus (tag : Byte)
  | siteSet (tag : Byte) (f : SiteFields)
  | partRestart (tag : Byte)
  | cardPut (tag : Byte) (f : CardFields)
  | cardAmend (tag mask : Byte) (f : CardFields)
  | cardGet (tag : Byte) (card : CardNo)
  | cardRemove (tag : Byte) (card : CardNo)
  | cardScan (tag : Byte) (start : BitVec 16) (count : Byte)
  | accountPut (tag : Byte) (index : BitVec 16) (f : AccountFields)
  | accountAmend (tag : Byte) (index : BitVec 16) (mask : Byte) (f : AccountFields)
  | accountGet (tag : Byte) (index : BitVec 16)
  | groupWrite (tag : Byte) (f : GroupFields)
  | classPut (tag slot : Byte) (f : ClassFields)
  | classGet (tag slot : Byte)
  | chamberSet (tag chamber : Byte) (f : ChamberFields)
  | chamberGet (tag chamber : Byte)
  | chamberClear (tag chamber : Byte)
  | profilePut (tag profile : Byte) (f : ProfileFields)
  | profileGet (tag profile : Byte)
  | stationBind (tag station : Byte) (serial : Option Serial)
  | stationGet (tag station : Byte)
  | roundRead (tag start count : Byte)
  | roundAdd (tag chamber urgency : Byte)
  | roundDrop (tag chamber : Byte)
  | journalRead (tag : Byte) (start : BitVec 16) (count : Byte)
  | journalRelease (tag : Byte) (count : BitVec 16) (expected : Option Seconds)
  | lineCensus (tag : Byte)
  | lineSweep (tag : Byte)
  | lineDormant (tag : Byte)
  | lineWake (tag : Byte)
  | lineReset (tag : Byte)
  | lineFrameDiscard (bytes : List Byte)
  | responseWindowExpiry
  | unlockEnd (e : TxnEnd)
  | denyEnd (e : TxnEnd)
  | lockEnd (e : TxnEnd)
  | releaseEnd (e : TxnEnd)
  | measureEnd (e : TxnEnd)
  | attnReadEnd (e : TxnEnd)
  | assignEnd (e : TxnEnd)
  | statusEnd (e : StatusEnd)
  | bindingStatusEnd (e : StatusEnd)
  /-- ATTN_QUERY_WINDOW: whether the presence bit was read dominant, and the contention word read (R156). -/
  | attnQueryWindow (presence : Bool) (word : Byte)
  /-- CONTEND_WINDOW: whether the presence bit was read dominant, and the serial read (R148). -/
  | contendWindow (presence : Bool) (serial : Serial)
  | censusOpenSent
  | dormantSent
  | dropAddressSent
  | guardDeadline (chamber : ChamberNo)
  | visitDeadline (station : StationNo)
  | returnDeadline (chamber : ChamberNo)
  | measurementTimeout (station : StationNo)
  | censusPeriodDeadline
  | quietDeadline
  | dormantDeadline
  /-- WAKE_PULSE: a dominant level of this many microseconds is read on the line (R167). -/
  | wakePulse (micros : Nat)
  | settleEnd
  /-- BACKUP_SUPPLY_LOSS: VBK falls below its retention level. -/
  | backupSupplyLoss
  deriving DecidableEq, Repr

end Sys2Proof
end

