-- ==== Sys2Proof/Decode.lean ====
section
/-! DEFINITION. The command that a word of the command table spells. The table gives bits to none of its rows, so no word
spells a command; the part's own encodings, of host payloads and of line frames, are in `Machine/Operands.lean` and
`Machine/Bytes.lean`. -/

namespace Sys2Proof

/-- The command whose table word is `w`: none, because no row of the table has bits. -/
def decodeTableWord (_nbits _w : Nat) : Option Instr := none

end Sys2Proof
end

