-- ==== Sys2Proof/Machine/Records.lean ====
section
/-! DEFINITION. The records the part keeps, block by block, as the chapters' field tables give them. -/

namespace Sys2Proof.Machine

/-! ## Time (R188) -/

/-- A deadline counted in seconds: the elapsed-count reading at the event that set it, and how many seconds of
elapsed time after it the deadline lies. Differences are taken modulo 2^32 (R188). -/
structure Deadline where
  start : Seconds
  span  : Nat
  deriving DecidableEq, Repr, Inhabited

/-- The part clock, its unset flag and the elapsed count (R188). -/
structure Clock where
  part    : Seconds
  unset   : Bool
  elapsed : Seconds
  deriving DecidableEq, Repr, Inhabited

/-- The kinds of start (R185). -/
inductive StartKind where
  | cold
  | warmPower
  | warmRestart
  deriving DecidableEq, Repr, Inhabited

/-- The last-start record (R185). -/
structure LastStart where
  kind : StartKind
  time : Seconds
  deriving DecidableEq, Repr, Inhabited

/-! ## Chambers, stations and profiles (Chapters 1 to 3) -/

/-- The kinds of waste (R2). -/
inductive Fraction where
  | residual
  | paper
  | glass
  | packaging
  | organic
  deriving DecidableEq, Repr, Inhabited

/-- The access states of a chamber (Chapter 1, section 1.2). -/
inductive Access where
  | unconfigured
  | offline
  | opened
  | full
  | locking
  | locked
  | lifted
  | blocked
  deriving DecidableEq, Repr, Inhabited

/-- The deny codes 1..17 (Chapter 5, section 5.2.1). -/
inductive DenyCode where
  | noChamber
  | unknownCard
  | lost
  | suspended
  | wrongStation
  | fraction
  | noAccount
  | accountClosed
  | full
  | emptying
  | blocked
  | hatchBusy
  | allowance
  | journalFull
  | visitOpen
  | visitLimit
  | nothingListed
  deriving DecidableEq, Repr, Inhabited

/-- A line command of a chamber's command slot (R10). UNLOCK carries the hatch window in seconds. -/
inductive Command where
  | unlock (window : Nat)
  | deny (code : DenyCode)
  | lock
  | release
  deriving DecidableEq, Repr, Inhabited

/-- A chamber's line command slot (R10): the pending place with its posted time, and the sending place. -/
structure CommandSlot where
  pending : Option (Command × Seconds)
  sending : Option Command
  deriving DecidableEq, Repr, Inhabited

/-- The configuration part of a chamber record, clamped (R2, R3). -/
structure ChamberConfig where
  station    : StationNo
  slot       : SlotNo
  fraction   : Fraction
  profile    : Fin 8
  capacity   : Nat
  drum       : Nat
  depth      : Nat
  clearance  : Nat
  usable     : Nat
  request    : Nat
  full       : Nat
  tdown      : Nat
  minQuality : Nat
  window     : Nat
  interval   : Nat
  deriving DecidableEq, Repr, Inhabited

/-- The lift mark (R9): E before the lift and the part-clock time of the lift. -/
structure LiftMark where
  fill : Nat
  time : Seconds
  deriving DecidableEq, Repr, Inhabited

/-- The outcome of a reading (R32). -/
inductive ReadingOutcome where
  | accepted
  | reAnchored
  | divergent
  | lowQuality
  deriving DecidableEq, Repr, Inhabited

/-- The last reading record (R32). -/
structure Reading where
  time        : Seconds
  echoTime    : Nat
  quality     : Nat
  temperature : Int
  distance    : Nat
  height      : Nat
  measured    : Nat
  predicted   : Nat
  outcome     : ReadingOutcome
  deriving DecidableEq, Repr, Inhabited

/-- Sensor health (R31). -/
inductive Health where
  | good
  | doubtful
  | silent
  deriving DecidableEq, Repr, Inhabited

/-- The estimate state of a chamber (R19): anchor A, count k, step S, live estimate E, the two runs, health,
the last reading and the re-anchor count. -/
structure Estimate where
  anchor    : Nat
  count     : Nat
  step      : Nat
  fill      : Nat
  divRun    : Nat
  missRun   : Nat
  health    : Health
  last      : Option Reading
  reanchors : Nat
  deriving DecidableEq, Repr, Inhabited

/-- The retained part of a chamber record (R1, R41): its command slot, candidate flag and return deadline are
main-domain state (R184) and stand in `Main`. The last-attempt time is an elapsed-count reading (R41). -/
structure Chamber where
  config      : Option ChamberConfig
  access      : Access
  estimate    : Estimate
  liftMark    : Option LiftMark
  lastAttempt : Option Seconds
  due         : Bool
  deriving DecidableEq, Repr, Inhabited

/-- The node states of a station (R14). -/
inductive NodeState where
  | notBound
  | offline
  | online
  deriving DecidableEq, Repr, Inhabited

/-- A station record (R14). -/
structure Station where
  serial    : Option Serial
  address   : Option AddrNo
  node      : NodeState
  missRun   : Nat
  slotCount : Nat
  deriving DecidableEq, Repr, Inhabited

/-! ## Card store (Chapter 4) -/

/-- The states of a card (R57). -/
inductive CardState where
  | active
  | suspended
  | lost
  deriving DecidableEq, Repr, Inhabited

/-- The last use of a card (R57): the station of the chamber granted, and the time of the grant. -/
structure LastUse where
  station : StationNo
  time    : Seconds
  deriving DecidableEq, Repr, Inhabited

/-- A card record (R57). -/
structure Card where
  number  : CardNo
  account : AccountNo
  rights  : FractionSet
  state   : CardState
  scope   : Option StationSet
  lastUse : Option LastUse
  deriving DecidableEq, Repr, Inhabited

/-- The states of an account (R58). -/
inductive AccountState where
  | unused
  | opened
  | closed
  deriving DecidableEq, Repr, Inhabited

/-- An account's allowance (R58). -/
inductive Allowance where
  | limited (n : Nat)
  | unlimited
  deriving DecidableEq, Repr, Inhabited

/-- An account record (R58). The group is a tag whose bits GROUP WRITE masks (R72). -/
structure Account where
  state     : AccountState
  group     : Byte
  allowance : Allowance
  overdraft : Nat
  used      : Nat
  held      : Nat
  deriving DecidableEq, Repr, Inhabited

/-- The visit modes (R61). -/
inductive VisitMode where
  | listed
  | all
  deriving DecidableEq, Repr, Inhabited

/-- The fields of a template that belong to its kind (R61). -/
inductive TemplateKind where
  | guest (rights : FractionSet) (account : Option AccountNo)
  | crew (mode : VisitMode)
  deriving DecidableEq, Repr, Inhabited

/-- A class template (R61). -/
structure Template where
  enabled : Bool
  value   : CardNo
  mask    : CardNo
  kind    : TemplateKind
  deriving DecidableEq, Repr, Inhabited

/-! ## Sessions and journal (Chapters 5 and 6) -/

/-- The kind of a session (R78). -/
inductive SessionKind where
  | resident
  | guest
  deriving DecidableEq, Repr, Inhabited

/-- The UNLOCK phase of a session (R78). -/
inductive UnlockPhase where
  | posted
  | sent
  | answered
  deriving DecidableEq, Repr, Inhabited

/-- A hatch session (R78). The guard deadline is main-domain state (R184) and is absent once main power was
lost. -/
structure Session where
  card    : CardNo
  kind    : SessionKind
  account : Option AccountNo
  charged : Bool
  granted : Seconds
  guard   : Option Deadline
  phase   : UnlockPhase
  deriving DecidableEq, Repr, Inhabited

/-- The outcomes of a journal record (R100). -/
inductive JournalOutcome where
  | deposit
  | abandoned
  | unconfirmed
  deriving DecidableEq, Repr, Inhabited

/-- A journal record (R100). -/
structure JournalRecord where
  sequence  : BitVec 32
  closeTime : Seconds
  timeValid : Bool
  card      : CardNo
  kind      : SessionKind
  account   : Option AccountNo
  chamber   : ChamberNo
  fraction  : Fraction
  outcome   : JournalOutcome
  charged   : Bool
  deriving DecidableEq, Repr, Inhabited

/-! ## Rounds and visits (Chapter 7) -/

/-- The urgency of a round entry (R111). -/
inductive Urgency where
  | normal
  | urgent
  deriving DecidableEq, Repr, Inhabited

/-- The state of a round entry (R111). -/
inductive EntryState where
  | waiting
  | inVisit (station : StationNo)
  deriving DecidableEq, Repr, Inhabited

/-- A round entry (R111). -/
structure Entry where
  chamber  : ChamberNo
  fraction : Fraction
  fill     : Nat
  entered  : Seconds
  urgency  : Urgency
  forced   : Bool
  state    : EntryState
  skips    : Nat
  deriving DecidableEq, Repr, Inhabited

/-- The visit phases of a chamber (R119). -/
inductive Phase where
  | draining
  | locking
  | locked
  | lifted
  | emptied
  | blocked
  | left
  deriving DecidableEq, Repr, Inhabited

/-- An involved chamber with its visit phase (R119). -/
structure Involved where
  chamber : ChamberNo
  phase   : Phase
  deriving DecidableEq, Repr, Inhabited

/-- A crew visit record (R119). The deadline is main-domain state (R184). -/
structure Visit where
  station  : StationNo
  crew     : CardNo
  mode     : VisitMode
  opened   : Seconds
  deadline : Option Deadline
  involved : List Involved
  deriving DecidableEq, Repr, Inhabited

/-- The outcomes of a visit (R119). -/
inductive VisitOutcome where
  | complete
  | closed
  | expired
  deriving DecidableEq, Repr, Inhabited

/-- A station's visit summary (R119). -/
structure Summary where
  crew       : CardNo
  opened     : Seconds
  closed     : Seconds
  outcome    : VisitOutcome
  emptied    : Nat
  blocked    : Nat
  left       : Nat
  unfinished : Nat
  deriving DecidableEq, Repr, Inhabited

/-! ## Site settings (R178) and measurement scheduler (Chapter 3) -/

/-- The site settings of SITE SET other than the part clock (R178). -/
structure Settings where
  charged        : FractionSet
  responseWindow : Nat
  censusPeriod   : Nat
  quietPeriod    : Nat
  dormantLimit   : Nat
  visitWindow    : Nat
  returnLimit    : Nat
  deriving DecidableEq, Repr, Inhabited

/-- The phases of a measurement in flight (R45). The timeout deadline is present in WAITING. -/
inductive InflightPhase where
  | sending
  | waiting (timeout : Deadline)
  deriving DecidableEq, Repr, Inhabited

/-- A station's in-flight measurement record (R45). -/
structure Inflight where
  chamber   : ChamberNo
  slot      : SlotNo
  issued    : Seconds
  phase     : InflightPhase
  disturbed : Bool
  deriving DecidableEq, Repr, Inhabited

/-- The measurement scheduler's own state (R41). -/
structure Scheduler where
  pointer  : ChamberNo
  owed     : Vector Bool 64
  inflight : Vector (Option Inflight) 16
  deriving DecidableEq, Repr, Inhabited

/-! ## Station line (Chapters 8 and 9) -/

/-- Whether a binding STATUS stands for an entry (R153). -/
inductive BindingStatus where
  | none
  | pending
  | onLine
  deriving DecidableEq, Repr, Inhabited

/-- An entry of the line address table (R140), with its binding STATUS (R153). -/
structure LineEntry where
  serial  : Serial
  station : Option StationNo
  missRun : Nat
  binding : BindingStatus
  deriving DecidableEq, Repr, Inhabited

/-- The census states (R145). -/
inductive CensusState where
  | idle
  | pending
  | running
  deriving DecidableEq, Repr, Inhabited

/-- The next step of a running census (R145). -/
inductive CensusStep where
  | contend
  | assign
  | status
  deriving DecidableEq, Repr, Inhabited

/-- The census state (R145). `kept` holds an internal request taken while RUNNING (R146). -/
structure Census where
  state      : CensusState
  next       : CensusStep
  serialRead : Serial
  given      : AddrNo
  bound      : Bool
  period     : Option Deadline
  kept       : Bool
  deriving DecidableEq, Repr, Inhabited

/-- The attention classes 0..3 (Chapter 9, section 9.1). -/
inductive AttnClass where
  | lift
  | hatch
  | card
  | echo
  deriving DecidableEq, Repr, Inhabited

/-- The attention read-out state (R158). -/
structure Attention where
  won     : Option (AttnClass × AddrNo)
  toggles : Vector Bool 16
  deriving DecidableEq, Repr, Inhabited

/-- The line power states (R162). -/
inductive PowerState where
  | active
  | preparing
  | dormant
  | waking
  deriving DecidableEq, Repr, Inhabited

/-- The causes of a change of power state (R162). -/
inductive PowerCause where
  | start
  | hostDormant
  | quiet
  | grant
  | visit
  | hostWake
  | sweepDone
  | wakePulse
  | limit
  | hostSweep
  | hostCensus
  | reset
  deriving DecidableEq, Repr, Inhabited

/-- The level the LPW pin selects (Chapter 0, section 4). -/
inductive LinePower where
  | full
  | keepAlive
  deriving DecidableEq, Repr, Inhabited

/-- The line power record (R162), with the LPW pin. `settleMs` is the settle end of WAKING, as the milliseconds
after full power was restored. -/
structure Power where
  state      : PowerState
  cause      : PowerCause
  changed    : Seconds
  quiet      : Option Deadline
  dormant    : Option Deadline
  settleMs   : Option Nat
  lpw        : LinePower
  deriving DecidableEq, Repr, Inhabited

/-- What a line turn is for (R135, R139, R144). -/
inductive TurnKind where
  | command (chamber : ChamberNo) (addr : AddrNo)
  | measure (station : StationNo) (addr : AddrNo)
  | read (cls : AttnClass) (addr : AddrNo)
  | assign (addr : AddrNo)
  | status (addr : AddrNo)
  | bindStatus (addr : AddrNo)
  | query
  | contend
  | censusOpen
  | dormantCast
  | dropAddress
  deriving DecidableEq, Repr, Inhabited

/-- A line turn in progress (R135): the frame driven on LTX after its start mark, whether a transaction's frame
has been repeated, and the response window in milliseconds of the frame last sent (R138). -/
structure Turn where
  kind     : TurnKind
  frame    : List Byte
  repeated : Bool
  windowMs : Nat
  deriving DecidableEq, Repr, Inhabited

/-- The line engine. `lastQuery`: the turn started last was an attention query (R144). `dropDue`: DROP_ADDRESS
is the next turn (R154), in WAKING with its census to follow when the line is ACTIVE. -/
structure Line where
  table     : Vector (Option LineEntry) 16
  withheld  : Vector Bool 16
  census    : Census
  attention : Attention
  power     : Power
  turn      : Option Turn
  lastQuery : Bool
  dropDue   : Bool
  deriving DecidableEq, Repr, Inhabited

/-! ## Host link (Chapter 10) -/

/-- The receiver (R172): hunting, or in a frame with the bytes collected after START. -/
inductive Receiver where
  | hunting
  | inFrame (bytes : List Byte)
  deriving DecidableEq, Repr, Inhabited

/-- A request that holds a place of the request queue (R175). -/
structure Queued where
  tag : Byte
  req : Request
  deriving DecidableEq, Repr

/-- The frame the transmitter is sending on HTX (R181). -/
inductive Sending where
  | reply (frame : List Byte)
  | busy (frame : List Byte)
  | notice (frame : List Byte)
  deriving DecidableEq, Repr

/-- The alarm types 1..7 (R182). -/
inductive AlarmType where
  | lostCardSeen
  | lockFailed
  | releaseFailed
  | notReturned
  | unscheduledLift
  | tamper
  | lineFull
  deriving DecidableEq, Repr, Inhabited

/-- A notice key: a kind and a subject (R180). -/
inductive Key where
  | chamber (c : ChamberNo)
  | round
  | visit (s : StationNo)
  | node (a : AddrNo)
  | journal
  | line
  | alarm (type : AlarmType) (c : ChamberNo)
  deriving DecidableEq, Repr, Inhabited

/-- A key in the outbox with its detail (R180): for ALARM the time of the latest posting, the posting count and
the card number; for NODE the serial. The detail of another key stays at its initial value. -/
structure OutboxKey where
  key    : Key
  time   : Seconds
  count  : Nat
  card   : CardNo
  serial : Serial
  deriving DecidableEq, Repr, Inhabited

/-- The host link. `reply`: the ready reply of the request at the head of the queue (R175). `restartDue`: the
reply of a PART RESTART has left the transmitter and the warm start has not begun (R187). -/
structure HostLink where
  rx         : Receiver
  queue      : List Queued
  reply      : Option (List Byte)
  busy       : List (List Byte)
  outbox     : List OutboxKey
  tx         : Option Sending
  restartDue : Bool
  deriving DecidableEq, Repr

/-! ## The two domains (R184) -/

/-- The retained domain (R184): what VBK keeps while main power is absent. -/
structure Retained where
  cards     : List Card
  accounts  : Vector Account 2048
  templates : Vector Template 8
  journal   : List JournalRecord
  nextSeq   : BitVec 32
  sessions  : Vector (Option Session) 64
  chambers  : Vector Chamber 64
  siteMap   : Vector (Vector (Option ChamberNo) 4) 16
  profiles  : Vector (Vector Nat 9) 8
  stations  : Vector Station 16
  settings  : Settings
  round     : List Entry
  visits    : Vector (Option Visit) 4
  summaries : Vector (Option Summary) 16
  clock     : Clock
  lastStart : LastStart
  deriving DecidableEq, Repr, Inhabited

/-- The main domain (R184): all other state, lost when VDD is removed. -/
structure Main where
  host       : HostLink
  line       : Line
  sched      : Scheduler
  slots      : Vector CommandSlot 64
  posting    : List ChamberNo
  candidates : Vector Bool 64
  returns    : Vector (Option Deadline) 64
  deriving DecidableEq, Repr

end Sys2Proof.Machine
end

