-- ==== Sys2Proof/Config.lean ====
section
/-! DEFINITION. What the manual fixes once for the part (capacities and time limits), and the free values: what
the manual leaves open and the model therefore leaves unconstrained. A free value is an `opaque` constant, so no
proof can know it. -/

namespace Sys2Proof.Config

/-- FREE VALUE (assumption log entry 2). The contents of the retained domain once the retention marker is lost: R185 says
that every part of it "then counts as unknown". The argument is the state's free-value counter. -/
opaque unknownRetained : Nat → Machine.Retained

/-- FREE VALUE (assumption log entry 3). A choice the manual gives no rule for, among several things of one kind that
wait at once. The argument is the state's free-value counter. -/
opaque freeChoice : Nat → Nat

/-- Records the card table has room for (R56). -/
def cardRoom : Nat := 8192

/-- Records the journal has room for (R99). -/
def journalRoom : Nat := 4096

/-- The journal's high-water mark (R106). -/
def highWater : Nat := 3072

/-- Entries the round list has room for (R111). -/
def roundRoom : Nat := 32

/-- Requests the request queue holds (R175). -/
def queueRoom : Nat := 4

/-- Replies the busy list holds (R175). -/
def busyRoom : Nat := 4

/-- Seconds from the answer of MEASURE, or from the end of a census, to a measurement's timeout (R45, R50). -/
def timeoutSpan : Nat := 3

/-- Seconds the guard deadline lies beyond the hatch window, and beyond the end of a census (R78, R89). -/
def guardSpan : Nat := 10

/-- Milliseconds of settling after full power is restored (R162). -/
def settleSpanMs : Nat := 150

/-- Microseconds of dominant level that make a wake pulse (R167). -/
def wakePulseMicros : Nat := 1000

/-- The greatest LENGTH of a host frame (R172). -/
def hostMaxLength : Nat := 248

/-- The greatest LEN of a line frame (R136). -/
def lineMaxLength : Nat := 32

end Sys2Proof.Config
end

