-- ==== Sys2Proof/Machine/Tables.lean ====
section
/-! DEFINITION. Reading and writing the places of a fixed table: the one way the model reads and writes its
session places, chamber records, line addresses and the other numbered tables. -/

namespace Sys2Proof.Machine

/-- The place `i` of a table. -/
def look {α : Type} {n : Nat} (v : Vector α n) (i : Fin n) : α := v[i.val]

/-- The table with its place `i` replaced. -/
def put {α : Type} {n : Nat} (v : Vector α n) (i : Fin n) (x : α) : Vector α n := v.set i.val x i.isLt

/-- The table with every place replaced by `f` of it. -/
def mapAll {α : Type} {n : Nat} (f : α → α) (v : Vector α n) : Vector α n :=
  ⟨⟨v.toArray.toList.map f⟩, by simp⟩

/-- How many places of a table meet `p`. -/
def countWhere {α : Type} {n : Nat} (p : α → Bool) (v : Vector α n) : Nat := v.toArray.toList.countP p

/-- The indexes 0 .. n - 1 of a table, in ascending order. -/
def indexes (n : Nat) : List (Fin n) := List.finRange n

/-- The lowest index that meets `p`. -/
def lowest {n : Nat} (p : Fin n → Bool) : Option (Fin n) := (indexes n).find? p

end Sys2Proof.Machine
end

