-- ==== Sys2Proof/Machine/Cold.lean ====
section
/-! DEFINITION. The values each part of the state takes at a start: the cold values of the retained domain (R185,
each from its own chapter) and the start values of the main domain (R183, R186 step 1). -/

namespace Sys2Proof.Machine

/-- Estimate state at cold start (R19). -/
def coldEstimate : Estimate :=
  { anchor := 0, count := 0, step := 0, fill := 0, divRun := 0, missRun := 0, health := .good, last := none,
    reanchors := 0 }

/-- A chamber record at cold start (R17, R55). -/
def coldChamber : Chamber :=
  { config := none, access := .unconfigured, estimate := coldEstimate, liftMark := none, lastAttempt := none,
    due := false }

/-- A station record at cold start (R14). -/
def coldStation : Station :=
  { serial := none, address := none, node := .notBound, missRun := 0, slotCount := 4 }

/-- An account record at cold start (R75). -/
def coldAccount : Account :=
  { state := .unused, group := 0, allowance := .limited 0, overdraft := 0, used := 0, held := 0 }

/-- A template slot at cold start (R75). -/
def coldTemplate : Template := { enabled := false, value := 0, mask := 0, kind := .guest 0 none }

/-- The points of profile 0 (R16), which every profile holds at cold start. -/
def straightProfile : Vector Nat 9 := #v[0, 125, 250, 375, 500, 625, 750, 875, 1000]

/-- The site settings at cold start (R178): the charged-fraction set is RESIDUAL alone (R79). -/
def coldSettings : Settings :=
  { charged := 1, responseWindow := 40, censusPeriod := 60, quietPeriod := 0, dormantLimit := 900,
    visitWindow := 1200, returnLimit := 600 }

/-- The retained domain at cold start (R185). -/
def Retained.cold : Retained :=
  { cards := [], accounts := Vector.replicate 2048 coldAccount, templates := Vector.replicate 8 coldTemplate,
    journal := [], nextSeq := 0, sessions := Vector.replicate 64 none,
    chambers := Vector.replicate 64 coldChamber,
    siteMap := Vector.replicate 16 (Vector.replicate 4 none),
    profiles := Vector.replicate 8 straightProfile,
    stations := Vector.replicate 16 coldStation,
    settings := coldSettings, round := [], visits := Vector.replicate 4 none,
    summaries := Vector.replicate 16 none,
    clock := { part := 0, unset := true, elapsed := 0 },
    lastStart := { kind := .cold, time := 0 } }

/-- The host link at a start (R183). -/
def HostLink.start : HostLink :=
  { rx := .hunting, queue := [], reply := none, busy := [], outbox := [], tx := none, restartDue := false }

/-- The census state at a start (R145). -/
def Census.start : Census :=
  { state := .idle, next := .contend, serialRead := 0, given := 0, bound := false, period := none, kept := false }

/-- The quiet deadline set one quiet period after now, absent while the quiet period is 0 (R163). -/
def quietFrom (settings : Settings) (elapsed : Seconds) : Option Deadline :=
  if settings.quietPeriod = 0 then none else some { start := elapsed, span := settings.quietPeriod }

/-- The line power record at a start taken at `clock` (R162). -/
def Power.start (settings : Settings) (clock : Clock) : Power :=
  { state := .active, cause := .start, changed := clock.part, quiet := quietFrom settings clock.elapsed,
    dormant := none, settleMs := none, lpw := .full }

/-- The line engine at a start (R140, R145, R158, R162). -/
def Line.start (settings : Settings) (clock : Clock) : Line :=
  { table := Vector.replicate 16 none, withheld := Vector.replicate 16 false, census := Census.start,
    attention := { won := none, toggles := Vector.replicate 16 false },
    power := Power.start settings clock, turn := none, lastQuery := false, dropDue := false }

/-- The scheduler's own state at a start (R55). -/
def Scheduler.start : Scheduler :=
  { pointer := 0, owed := Vector.replicate 64 false, inflight := Vector.replicate 16 none }

/-- The main domain at a start (R183, R17, R55). -/
def Main.start (settings : Settings) (clock : Clock) : Main :=
  { host := HostLink.start, line := Line.start settings clock, sched := Scheduler.start,
    slots := Vector.replicate 64 { pending := none, sending := none }, posting := [],
    candidates := Vector.replicate 64 false, returns := Vector.replicate 64 none }

/-- The key (LINE), as a start posts it (R183): the one key of its outbox. -/
def lineKey : OutboxKey := { key := .line, time := 0, count := 0, card := 0, serial := 0 }

/-- The main domain after the handling of a cold start (R185): its start values, a census requested and the key
(LINE) posted. -/
def Main.afterCold : Main :=
  let m := Main.start Retained.cold.settings Retained.cold.clock
  { m with
    host := { m.host with outbox := [lineKey] }
    line := { m.line with census := { m.line.census with state := .pending } } }

end Sys2Proof.Machine
end

