-- ==== Sys2Proof/Machine/State.lean ====
section
/-! DEFINITION. The state of the part, why a step may stop, and the state after reset. -/

namespace Sys2Proof.Machine

/-- Why a step stops with a fault. Nothing raises one: the manual gives every command of the table an effect, or
says that the event changes no state, in every state of the part. A type without members is safe: no claim can
rest on a fault. -/
inductive Fault where
  deriving DecidableEq, Repr

/-- Why a step is refused. -/
inductive Refusal where
  /-- Raised by `exec` alone, for a command that has no meaning in the model yet. Safe: the machine stops. Every
  arm of `exec` has its meaning, so nothing raises it now. -/
  | notModelled (mnemonic : String)
  deriving DecidableEq, Repr

/-- The state of the part, and the queue of commands that wait for it.

`pending`: the commands that wait, first in, first out (the model's own). `vdd` and `vbk`: the main and the backup
supply present (R184, R188). `marker`: the retention marker is intact (R185). `ret` and `main`: the two domains of
R184. `freeCount`: the counter that the free values of `Config` are applied to (the model's own). -/
structure State where
  pending   : List Instr
  vdd       : Bool
  vbk       : Bool
  marker    : Bool
  ret       : Retained
  main      : Main
  freeCount : Nat
  deriving DecidableEq, Repr

/-- The part right after a cold start (R185): every retained item at its cold value, the marker written, the main
domain at its start values, the line ACTIVE, a census requested and the key (LINE) posted. No line turn and no
host frame has begun (DESIGN CHOICE, assumption log entries 9 and 10). -/
def State.reset : State :=
  { pending := [], vdd := true, vbk := true, marker := true, ret := Retained.cold, main := Main.afterCold, freeCount := 0 }

end Sys2Proof.Machine
end

