-- ==== Sys2Proof/Machine/Bytes.lean ====
section
/-! DEFINITION. Bytes on the two links: byte order, the CRC and the layout of host frames (Chapter 10, section
10.1), and the SUM and the layout of station line frames (Chapter 8, section 8.2). Multi-byte values go most
significant byte first on both. -/

namespace Sys2Proof.Machine

/-! ## Byte order -/

def split16 (x : BitVec 16) : List Byte := [x.extractLsb' 8 8, x.extractLsb' 0 8]

def split32 (x : BitVec 32) : List Byte :=
  [x.extractLsb' 24 8, x.extractLsb' 16 8, x.extractLsb' 8 8, x.extractLsb' 0 8]

def split40 (x : BitVec 40) : List Byte :=
  [x.extractLsb' 32 8, x.extractLsb' 24 8, x.extractLsb' 16 8, x.extractLsb' 8 8, x.extractLsb' 0 8]

def split48 (x : BitVec 48) : List Byte :=
  [x.extractLsb' 40 8, x.extractLsb' 32 8, x.extractLsb' 24 8, x.extractLsb' 16 8, x.extractLsb' 8 8,
    x.extractLsb' 0 8]

def join16 (a b : Byte) : BitVec 16 := a ++ b

def join32 (a b c d : Byte) : BitVec 32 := a ++ b ++ c ++ d

def join40 (a b c d e : Byte) : BitVec 40 := a ++ b ++ c ++ d ++ e

def join48 (a b c d e f : Byte) : BitVec 48 := a ++ b ++ c ++ d ++ e ++ f

/-- A number in one byte. -/
def nat8 (n : Nat) : List Byte := [BitVec.ofNat 8 n]

/-- A number in two bytes. -/
def nat16 (n : Nat) : List Byte := split16 (BitVec.ofNat 16 n)

/-- A choice or a presence flag in a byte of its own: bit 0, the other bits 0 (section 10.5). -/
def flagByte (b : Bool) : Byte := if b then 1 else 0

/-- A byte with the given bits, the first of the list bit 0. -/
def bitsByte (bits : List Bool) : Byte :=
  bits.foldr (fun b acc => (acc <<< 1) ||| flagByte b) 0

/-! ## Host frames (R172, R173) -/

/-- The byte that opens a host frame. -/
def startByte : Byte := 0x5A

/-- One shift of the CRC register with polynomial 0x1021 (R173). -/
def crcShift (crc : BitVec 16) : BitVec 16 := if crc.msb then (crc <<< 1) ^^^ 0x1021 else crc <<< 1

/-- The CRC register after one more byte, taken most significant bit first (R173). -/
def crcByte (crc : BitVec 16) (b : Byte) : BitVec 16 :=
  let c := crc ^^^ ((b.setWidth 16) <<< 8)
  crcShift (crcShift (crcShift (crcShift (crcShift (crcShift (crcShift (crcShift c)))))))

/-- The CRC of the bytes from LENGTH through the last payload byte, initial value 0xFFFF (R173). -/
def crc16 (bytes : List Byte) : BitVec 16 := bytes.foldl crcByte 0xFFFF

/-- A host frame as it is sent: START, LENGTH, KIND, TAG, payload and CRC. -/
def hostFrame (kind tag : Byte) (payload : List Byte) : List Byte :=
  let body := BitVec.ofNat 8 payload.length :: kind :: tag :: payload
  startByte :: (body ++ split16 (crc16 body))

/-- What a complete frame, given from LENGTH to CRC, holds: KIND, TAG and payload, when its CRC check passes and
its TAG is not 0 (R172, R173). -/
def openHostFrame (bytes : List Byte) : Option (Byte × Byte × List Byte) :=
  match bytes with
  | len :: kind :: tag :: rest =>
    let payload := rest.take len.toNat
    if rest.length = len.toNat + 2 ∧ rest.drop len.toNat = split16 (crc16 (len :: kind :: tag :: payload)) ∧ tag ≠ 0
    then some (kind, tag, payload) else none
  | _ => none

/-- What the receiver makes of one more byte (R172): its new state, and a received frame's KIND, TAG and payload
where this byte completes one that passes the checks. -/
def receiveByte (rx : Receiver) (b : Byte) : Receiver × Option (Byte × Byte × List Byte) :=
  match rx with
  | .hunting => (if b = startByte then .inFrame [] else .hunting, none)
  | .inFrame [] => (if b.toNat > Config.hostMaxLength then .hunting else .inFrame [b], none)
  | .inFrame (len :: got) =>
    let bytes := len :: (got ++ [b])
    if bytes.length < len.toNat + 5 then (.inFrame bytes, none) else (.hunting, openHostFrame bytes)

/-! ## Station line frames (R136) -/

/-- One step of the 8-bit ones'-complement sum: a carry out of the eighth bit is added back (R136). -/
def onesAdd (a b : Byte) : Byte :=
  let t := a.toNat + b.toNat
  BitVec.ofNat 8 (if t < 256 then t else t - 255)

/-- The 8-bit ones'-complement sum of bytes (R136). -/
def onesSum (bytes : List Byte) : Byte := bytes.foldl onesAdd 0

/-- A line frame after its start mark: ADDR, CMD, LEN, payload and SUM, SUM being 0xFF less the sum of the bytes
before it (R136). -/
def lineFrame (addr cmd : Byte) (payload : List Byte) : List Byte :=
  let body := addr :: cmd :: BitVec.ofNat 8 payload.length :: payload
  body ++ [0xFF - onesSum body]

/-- What a received line frame holds, ADDR, CMD and payload, when it is good (R136): LEN at most 32, LEN payload
bytes and a SUM byte follow, and the SUM check gives 0xFF. -/
def openLineFrame (bytes : List Byte) : Option (Byte × Byte × List Byte) :=
  match bytes with
  | addr :: cmd :: len :: rest =>
    if len.toNat ≤ Config.lineMaxLength ∧ rest.length = len.toNat + 1 ∧ onesSum bytes = 0xFF
    then some (addr, cmd, rest.take len.toNat) else none
  | _ => none

/-- The line address of an address index, as ADDR carries it. -/
def addrByte (a : AddrNo) : Byte := BitVec.ofNat 8 (a.val + 1)

/-- A node's answer frame (section 8.2): the command's code plus 0x80, from the node's address. -/
def answerFrame (a : AddrNo) (code : Byte) (payload : List Byte) : List Byte :=
  lineFrame (addrByte a) (code + 0x80) payload

end Sys2Proof.Machine
end

