-- ==== Sys2Proof/Machine/Ops.lean ====
section
/-! DEFINITION. The named operations every command works through: reading and updating one part of the state,
deadlines (R188), posting to the outbox (R180), the line command slot (R10 to R12), abandoning a line turn (R135)
and the change of an access state (R8, R47, R52). -/

namespace Sys2Proof.Machine

/-! ## Reading -/

/-- The part-clock reading (R188). -/
def State.now (s : State) : Seconds := s.ret.clock.part

/-- The elapsed-count reading (R188). -/
def State.elapsed (s : State) : Seconds := s.ret.clock.elapsed

def State.chamber (s : State) (c : ChamberNo) : Chamber := look s.ret.chambers c

/-- The chamber's live estimate E (R20). -/
def State.fill (s : State) (c : ChamberNo) : Nat := (s.chamber c).estimate.fill

def State.access (s : State) (c : ChamberNo) : Access := (s.chamber c).access

def State.session (s : State) (c : ChamberNo) : Option Session := look s.ret.sessions c

def State.station (s : State) (st : StationNo) : Station := look s.ret.stations st

def State.slot (s : State) (c : ChamberNo) : CommandSlot := look s.main.slots c

def State.entry (s : State) (a : AddrNo) : Option LineEntry := look s.main.line.table a

def State.candidate (s : State) (c : ChamberNo) : Bool := look s.main.candidates c

/-- The chamber that the site map's place (station, slot) holds (R1). -/
def State.mapped (s : State) (st : StationNo) (sl : SlotNo) : Option ChamberNo := look (look s.ret.siteMap st) sl

/-- The configured chambers of a station, in chamber-number order. -/
def State.chambersOf (s : State) (st : StationNo) : List ChamberNo :=
  (indexes 64).filter fun c => ((s.chamber c).config.map (·.station)) = some st

/-- The number of open hatch sessions (R77). -/
def State.openSessions (s : State) : Nat := countWhere Option.isSome s.ret.sessions

/-- Journal records plus open sessions (R102). -/
def State.roomTaken (s : State) : Nat := s.ret.journal.length + s.openSessions

/-! ## Updating one part -/

def State.onRet (f : Retained → Retained) (s : State) : State := { s with ret := f s.ret }

def State.onMain (f : Main → Main) (s : State) : State := { s with main := f s.main }

def State.onHost (f : HostLink → HostLink) (s : State) : State := s.onMain fun m => { m with host := f m.host }

def State.onLine (f : Line → Line) (s : State) : State := s.onMain fun m => { m with line := f m.line }

def State.onSched (f : Scheduler → Scheduler) (s : State) : State := s.onMain fun m => { m with sched := f m.sched }

def State.onPower (f : Power → Power) (s : State) : State := s.onLine fun l => { l with power := f l.power }

def State.onCensus (f : Census → Census) (s : State) : State := s.onLine fun l => { l with census := f l.census }

def State.onChamber (c : ChamberNo) (f : Chamber → Chamber) (s : State) : State :=
  s.onRet fun r => { r with chambers := put r.chambers c (f (look r.chambers c)) }

def State.onEstimate (c : ChamberNo) (f : Estimate → Estimate) (s : State) : State :=
  s.onChamber c fun ch => { ch with estimate := f ch.estimate }

def State.onStation (st : StationNo) (f : Station → Station) (s : State) : State :=
  s.onRet fun r => { r with stations := put r.stations st (f (look r.stations st)) }

def State.onAccount (a : AccountNo) (f : Account → Account) (s : State) : State :=
  s.onRet fun r => { r with accounts := put r.accounts a (f (look r.accounts a)) }

def State.onClock (f : Clock → Clock) (s : State) : State := s.onRet fun r => { r with clock := f r.clock }

def State.setSession (c : ChamberNo) (o : Option Session) (s : State) : State :=
  s.onRet fun r => { r with sessions := put r.sessions c o }

def State.setRound (l : List Entry) (s : State) : State := s.onRet fun r => { r with round := l }

def State.setVisits (v : Vector (Option Visit) 4) (s : State) : State := s.onRet fun r => { r with visits := v }

def State.setMapped (st : StationNo) (sl : SlotNo) (o : Option ChamberNo) (s : State) : State :=
  s.onRet fun r => { r with siteMap := put r.siteMap st (put (look r.siteMap st) sl o) }

def State.setSlot (c : ChamberNo) (x : CommandSlot) (s : State) : State :=
  s.onMain fun m => { m with slots := put m.slots c x }

def State.setPosting (l : List ChamberNo) (s : State) : State := s.onMain fun m => { m with posting := l }

def State.setReturn (c : ChamberNo) (d : Option Deadline) (s : State) : State :=
  s.onMain fun m => { m with returns := put m.returns c d }

def State.setFlag (c : ChamberNo) (b : Bool) (s : State) : State :=
  s.onMain fun m => { m with candidates := put m.candidates c b }

def State.setEntry (a : AddrNo) (o : Option LineEntry) (s : State) : State :=
  s.onLine fun l => { l with table := put l.table a o }

def State.setTurn (t : Option Turn) (s : State) : State := s.onLine fun l => { l with turn := t }

def State.setInflight (st : StationNo) (o : Option Inflight) (s : State) : State :=
  s.onSched fun d => { d with inflight := put d.inflight st o }

/-! ## Deadlines (R188) -/

/-- The deadline `span` seconds of elapsed time from now. -/
def State.deadlineIn (s : State) (span : Nat) : Deadline := { start := s.elapsed, span := span }

/-- The seconds left to a deadline at an elapsed-count reading, 0 once it is reached; differences are taken
modulo 2^32. -/
def secondsLeft (d : Deadline) (elapsed : Seconds) : Nat := d.span - (elapsed - d.start).toNat

/-- Seconds pass: the part clock and the elapsed count run on together, each modulo 2^32 (R188). -/
def pass (n : Nat) (s : State) : State :=
  s.onClock fun k => { k with part := k.part + BitVec.ofNat 32 n, elapsed := k.elapsed + BitVec.ofNat 32 n }

/-- The deadline is reached: the seconds left to it, none once it has been reached, pass first (DESIGN CHOICE, assumption log entry 6). -/
def passTo (d : Deadline) (s : State) : State := pass (secondsLeft d s.elapsed) s

/-! ## The notice outbox (R180) -/

/-- The detail of a key after one more posting (R180). -/
def refreshKey (now : Seconds) (card : CardNo) (serial : Serial) (e : OutboxKey) : OutboxKey :=
  match e.key with
  | .alarm _ _ => { e with time := now, count := min 255 (e.count + 1), card := card }
  | .node _ => { e with serial := serial }
  | _ => e

/-- The outbox after a posting: an absent key joins at the end, a present one keeps its place (R180). -/
def outboxPost (k : Key) (now : Seconds) (card : CardNo) (serial : Serial) (l : List OutboxKey) : List OutboxKey :=
  if l.any (fun e => e.key == k) then
    l.map fun e => if e.key = k then refreshKey now card serial e else e
  else l ++ [refreshKey now card serial { key := k, time := 0, count := 0, card := 0, serial := 0 }]

/-- Posts a key with a detail (R180). -/
def postWith (k : Key) (card : CardNo) (serial : Serial) (s : State) : State :=
  s.onHost fun h => { h with outbox := outboxPost k s.now card serial h.outbox }

/-- Posts a key that carries no detail (R180). -/
def post (k : Key) (s : State) : State := postWith k 0 0 s

/-- Posts an alarm without a card number (R182). -/
def alarm (t : AlarmType) (c : ChamberNo) (s : State) : State := postWith (.alarm t c) 0 0 s

/-- Posts the key (NODE, address) with the serial of the node concerned (R180). -/
def postNode (a : AddrNo) (serial : Serial) (s : State) : State := postWith (.node a) 0 serial s

/-! ## Line turns (R135) -/

/-- Abandons the turn in progress where its kind meets `p`: it is not repeated, its end is reported to no unit,
and the line becomes free (R135). -/
def abandonTurn (p : TurnKind → Bool) (s : State) : State :=
  match s.main.line.turn with
  | some t => if p t.kind then s.setTurn none else s
  | none => s

/-- The turn serves the sending place of chamber `c`. -/
def servesSlot (c : ChamberNo) : TurnKind → Bool
  | .command c' _ => c' = c
  | _ => false

/-- The turn is the MEASURE of station `st`. -/
def servesMeasure (st : StationNo) : TurnKind → Bool
  | .measure st' _ => st' = st
  | _ => false

/-- The turn is the binding STATUS of address `a`. -/
def servesBinding (a : AddrNo) : TurnKind → Bool
  | .bindStatus a' => a' = a
  | _ => false

/-! ## The line command slot (R10 to R12) -/

/-- What becomes of the pending place when a command meets it (R11). -/
inductive Meeting where
  | replaced
  | discarded
  | bothRemoved
  deriving DecidableEq, Repr

/-- The table of R11: the posted command against the pending one. -/
def meet : Command → Command → Meeting
  | _, .deny _ => .replaced
  | .deny _, _ => .discarded
  | .unlock _, .lock => .discarded
  | .unlock _, _ => .replaced
  | .lock, .lock => .discarded
  | .lock, _ => .replaced
  | .release, .lock => .bothRemoved
  | .release, _ => .discarded

/-- Empties the pending place of a chamber, which leaves the posting order (R10). -/
def dropPending (c : ChamberNo) (s : State) : State :=
  (s.setSlot c { s.slot c with pending := none }).setPosting (s.main.posting.filter (· ≠ c))

/-- Posts a command to a chamber's pending place (R11). A replacing command keeps the posted time and the place
in the posting order. -/
def postCommand (c : ChamberNo) (cmd : Command) (s : State) : State :=
  match (s.slot c).pending with
  | none => (s.setSlot c { s.slot c with pending := some (cmd, s.now) }).setPosting (s.main.posting ++ [c])
  | some (old, time) =>
    match meet cmd old with
    | .replaced => s.setSlot c { s.slot c with pending := some (cmd, time) }
    | .discarded => s
    | .bothRemoved => dropPending c s

def isUnlock : Command → Bool
  | .unlock _ => true
  | _ => false

/-- Removes the pending command of a chamber where it meets `p` (R12). -/
def removePending (p : Command → Bool) (c : ChamberNo) (s : State) : State :=
  match (s.slot c).pending with
  | some (cmd, _) => if p cmd then dropPending c s else s
  | none => s

/-- Clears a chamber's slot: both places are emptied, the chamber leaves the posting order, and the transaction of
a command removed from the sending place is dropped (R12). -/
def clearSlot (c : ChamberNo) (s : State) : State :=
  abandonTurn (servesSlot c)
    ((s.setSlot c { pending := none, sending := none }).setPosting (s.main.posting.filter (· ≠ c)))

/-! ## Access states (R8) -/

/-- Sets the disturbed flag of every in-flight record that names the chamber (R47). -/
def disturb (c : ChamberNo) (s : State) : State :=
  s.onSched fun d =>
    { d with inflight := mapAll (Option.map fun r => if r.chamber = c then { r with disturbed := true } else r) d.inflight }

/-- Takes the chamber out of the sweep-owed set (R52). -/
def dropOwed (c : ChamberNo) (s : State) : State := s.onSched fun d => { d with owed := put d.owed c false }

/-- OPEN and FULL: the states in service (Chapter 1, section 1.2). -/
def inService (a : Access) : Bool :=
  match a with
  | .opened | .full => true
  | _ => false

/-- The access states whose entry disturbs a measurement in flight (R47). -/
def disturbs (a : Access) : Bool :=
  match a with
  | .locking | .lifted | .blocked | .offline | .unconfigured => true
  | _ => false

/-- Changes a chamber's access state: a change posts (CHAMBER, chamber) (R8), may disturb a measurement in flight
(R47), and takes a chamber that leaves OPEN and FULL out of the sweep-owed set (R52). -/
def setAccess (c : ChamberNo) (a : Access) (s : State) : State :=
  if s.access c = a then s
  else
    let s := s.onChamber c fun ch => { ch with access := a }
    let s := if disturbs a then disturb c s else s
    let s := if inService a then s else dropOwed c s
    post (.chamber c) s

/-- The state OPEN or FULL "according to E" (R7): FULL where E is at or above the full threshold. -/
def byFill (s : State) (c : ChamberNo) : Access :=
  match (s.chamber c).config with
  | some cfg => if s.fill c ≥ cfg.full then .full else .opened
  | none => .opened

/-- Handles each chamber of a list in turn. -/
def eachOf {α : Type} (l : List α) (f : α → State → State) (s : State) : State := l.foldl (fun s x => f x s) s

end Sys2Proof.Machine
end

