-- ==== Sys2Proof/Machine/Round.lean ====
section
/-! DEFINITION. The round list, the candidate flags and what an open visit says of a chamber (Chapter 7, R111 to
R115). -/

namespace Sys2Proof.Machine

/-! ## Visits as the list sees them (R119) -/

/-- EMPTIED, BLOCKED and LEFT are final (R119). -/
def Phase.final : Phase → Bool
  | .emptied | .blocked | .left => true
  | _ => false

/-- The place of the visit table whose open visit is at a station (R119). -/
def State.visitAt (s : State) (st : StationNo) : Option (Fin 4) :=
  lowest fun p => ((look s.ret.visits p).map (·.station)) = some st

/-- A visit's phase of a chamber. -/
def Visit.phaseOf (v : Visit) (c : ChamberNo) : Option Phase :=
  (v.involved.find? (·.chamber = c)).map (·.phase)

/-- The chamber belongs to the visit's work: its phase there is not final (R119). -/
def Visit.worksOn (v : Visit) (c : ChamberNo) : Bool := (v.phaseOf c).any fun ph => !ph.final

/-- The place of the open visit that works on a chamber. An open visit that names the chamber in a final phase has no
say in it any more (R119). -/
def State.visitOf (s : State) (c : ChamberNo) : Option (Fin 4) :=
  lowest fun p => (look s.ret.visits p).any (·.worksOn c)

/-- The chamber's phase in the open visit that works on it. -/
def State.phaseOf (s : State) (c : ChamberNo) : Option Phase :=
  (s.visitOf c).bind fun p => (look s.ret.visits p).bind (·.phaseOf c)

/-- The state an entry of the chamber is made in: IN_VISIT where the chamber is involved in an open visit in a phase
that is not final (R112, R117). -/
def State.entryState (s : State) (c : ChamberNo) : EntryState :=
  match (s.visitOf c).bind (look s.ret.visits) with
  | some v => .inVisit v.station
  | none => .waiting

/-! ## The list (R111) -/

/-- The chamber's round entry. -/
def State.roundEntry (s : State) (c : ChamberNo) : Option Entry := s.ret.round.find? (·.chamber = c)

/-- The list with an entry joining its class at its end (R111). -/
def joinClass (e : Entry) (l : List Entry) : List Entry :=
  match e.urgency with
  | .normal => l ++ [e]
  | .urgent => l.filter (·.urgency = .urgent) ++ e :: l.filter (·.urgency = .normal)

/-- The list without the chamber's entry. -/
def withoutEntry (c : ChamberNo) (l : List Entry) : List Entry := l.filter (·.chamber ≠ c)

/-- Changes the list; every change posts (ROUND) (R111). -/
def changeRound (l : List Entry) (s : State) : State := if l = s.ret.round then s else post .round (s.setRound l)

/-- Rewrites the chamber's entry in its place (R111). -/
def rewriteEntry (c : ChamberNo) (f : Entry → Entry) (s : State) : State :=
  changeRound (s.ret.round.map fun e => if e.chamber = c then f e else e) s

/-- Sets or clears the candidate flag; a change posts (CHAMBER, chamber) (R111). -/
def setCandidate (c : ChamberNo) (b : Bool) (s : State) : State :=
  if s.candidate c = b then s else post (.chamber c) (s.setFlag c b)

/-- Makes an entry for a chamber, which joins the end of its class: skip count 0, fill at entry E, entered time now
(R112, R117). -/
def makeEntry (c : ChamberNo) (u : Urgency) (forced : Bool) (s : State) : State :=
  match (s.chamber c).config with
  | none => s
  | some cfg =>
    changeRound (joinClass { chamber := c, fraction := cfg.fraction, fill := s.fill c, entered := s.now, urgency := u,
                             forced := forced, state := s.entryState c, skips := 0 } s.ret.round) s

/-- The candidate with the highest E, the lowest chamber number among equals (R113). -/
def State.bestCandidate (s : State) : Option ChamberNo :=
  (indexes 64).foldl (fun best c =>
    if s.candidate c then
      match best with
      | none => some c
      | some b => if s.fill b < s.fill c then some c else some b
    else best) none

/-- FULL gives an URGENT entry, any other access state a NORMAL one (R112, R113). -/
def urgencyBy (a : Access) : Urgency := if a = .full then .urgent else .normal

/-- Admits one candidate to a freed slot (R113). -/
def admitCandidate (s : State) : State :=
  match s.bestCandidate with
  | none => s
  | some c => makeEntry c (urgencyBy (s.access c)) false (setCandidate c false s)

/-- Removes the chamber's entry with outcome DONE, WITHDRAWN, DROPPED or CLEARED, which frees a slot (R113). -/
def removeEntry (c : ChamberNo) (s : State) : State :=
  match s.roundEntry c with
  | none => s
  | some _ => admitCandidate (changeRound (withoutEntry c s.ret.round) s)

/-- Promotes a NORMAL entry to URGENT: it moves to the end of the URGENT class (R114). -/
def promote (c : ChamberNo) (s : State) : State :=
  match s.roundEntry c with
  | some e =>
    if e.urgency = .normal then
      changeRound (joinClass { e with urgency := .urgent } (withoutEntry c s.ret.round)) s
    else s
  | none => s

/-- The entry a FULL offer may displace from a full list: WAITING, not forced and NORMAL (R112). -/
def displaceable (e : Entry) : Bool := e.state = .waiting && !e.forced && e.urgency = .normal

/-- Takes an offer of threshold evaluation (R112). -/
def takeOffer (c : ChamberNo) (isFull : Bool) (s : State) : State :=
  if s.ret.round.length < Config.roundRoom then makeEntry c (if isFull then .urgent else .normal) false s
  else
    match isFull, (s.ret.round.filter displaceable).getLast? with
    | true, some e =>
      makeEntry c .urgent false
        (setCandidate e.chamber true (changeRound (withoutEntry e.chamber s.ret.round) s))
    | _, _ => setCandidate c true s

/-- The chamber's entry goes back to WAITING (R130, R132); `skip`: its skip count rises by 1, up to 15, and reaching
3 while NORMAL promotes it (R114). -/
def entryWaits (c : ChamberNo) (skip : Bool) (s : State) : State :=
  let s := rewriteEntry c (fun e =>
    { e with state := .waiting, skips := if skip then min 15 (e.skips + 1) else e.skips }) s
  if skip ∧ (s.roundEntry c).any (fun e => e.skips = 3) then promote c s else s

/-- The chamber's entry becomes IN_VISIT (R121). -/
def entryInVisit (c : ChamberNo) (st : StationNo) (s : State) : State :=
  rewriteEntry c (fun e => { e with state := .inVisit st }) s

/-- The number of candidates (R111). -/
def State.candidateCount (s : State) : Nat := countWhere id s.main.candidates

end Sys2Proof.Machine
end

