-- ==== Sys2Proof/Machine/Flags.lean ====
section
/-! DEFINITION. The derived flags of the part: sensor health (R31), the journal's two states (R106, R107), whether a
chamber is due (R42), whether a line address entry counts as bound (R140), and the conditions for the DORMANT
broadcast (R166). -/

namespace Sys2Proof.Machine

/-- Sensor health from the miss run and the divergence run (R31). -/
def healthOf (missRun divRun : Nat) : Health :=
  if missRun ≥ 3 then .silent else if divRun = 0 then .good else .doubtful

/-- The journal stands at its high-water mark (R108). -/
def State.highWater (s : State) : Bool := s.ret.journal.length ≥ Config.highWater

/-- The journal's room is all taken (R108). -/
def State.journalFull (s : State) : Bool := s.roomTaken ≥ Config.journalRoom

/-- The head sequence: the oldest record's number, or the next sequence number when empty (R99). -/
def State.headSeq (s : State) : BitVec 32 :=
  match s.ret.journal with
  | r :: _ => r.sequence
  | [] => s.ret.nextSeq

/-- A configured chamber is due: its mark is set, it was never attempted, or its interval has passed since the
attempt (R42). -/
def State.isDue (s : State) (c : ChamberNo) : Bool :=
  let ch := s.chamber c
  match ch.config with
  | none => false
  | some cfg =>
    ch.due || (match ch.lastAttempt with
      | none => true
      | some t => (s.elapsed - t).toNat ≥ cfg.interval)

/-- An entry counts as bound where it has a station and no binding STATUS pending or on the line (R140). -/
def LineEntry.countsBound (e : LineEntry) : Bool := e.station.isSome && e.binding = .none

/-- The station that a read-out from an address hands over (R159): absent for an entry that counts as unbound. -/
def State.handedStation (s : State) (a : AddrNo) : Option StationNo :=
  (s.entry a).bind fun e => if e.countsBound then e.station else none

/-- A census is RUNNING. -/
def State.censusRunning (s : State) : Bool := s.main.line.census.state = .running

/-- No hatch session and no crew visit is open (R163). -/
def State.quietSite (s : State) : Bool :=
  s.openSessions = 0 && countWhere Option.isSome s.ret.visits = 0

/-- The number of chambers in the sweep-owed set (R41). -/
def State.owedCount (s : State) : Nat := countWhere id s.main.sched.owed

/-- Some entry has a binding STATUS pending (R153). -/
def State.bindingsPending (s : State) : List AddrNo :=
  (indexes 16).filter fun a => (s.entry a).any fun e => e.binding = .pending

/-- The six conditions for the DORMANT broadcast (R166). -/
def State.settledForDormancy (s : State) : Bool :=
  s.owedCount = 0 && countWhere Option.isSome s.main.sched.inflight = 0 && s.main.line.attention.won.isNone &&
    s.main.posting.isEmpty && s.main.line.census.state = .idle && s.bindingsPending.isEmpty

end Sys2Proof.Machine
end

