-- ==== Sys2Proof/Machine/Estimator.lean ====
section
/-! DEFINITION. The fill estimator (Chapter 2): step and live estimate, threshold evaluation, deposit steps, misses
and readings. -/

namespace Sys2Proof.Machine

/-! ## Estimate arithmetic -/

/-- The step S from capacity and drum volume (R21). -/
def stepOf (capacity drum : Nat) : Nat := max 1 (min 250 ((drum * 1000 + capacity / 2) / capacity))

/-- The live estimate E of R20. -/
def liveFill (anchor count step : Nat) : Nat := min 1000 (anchor + count * step)

/-- The estimate with E computed again (R20). -/
def Estimate.refill (e : Estimate) : Estimate := { e with fill := liveFill e.anchor e.count e.step }

/-- The estimate with health derived again (R31). -/
def Estimate.rehealth (e : Estimate) : Estimate := { e with health := healthOf e.missRun e.divRun }

/-- An estimate re-anchored at `m` with both runs 0 (R28, R30). -/
def Estimate.anchorAt (m : Nat) (e : Estimate) : Estimate :=
  ({ e with anchor := m, count := 0, divRun := 0, missRun := 0 } : Estimate).refill.rehealth

/-- The estimate of a chamber that was emptied (R37): S, the last reading and the re-anchor count are kept. -/
def Estimate.emptied (e : Estimate) : Estimate :=
  { e with anchor := 0, count := 0, fill := 0, divRun := 0, missRun := 0, health := .good }

/-- The estimate of a chamber that CHAMBER CLEAR unconfigures (R19): the re-anchor count is kept. -/
def Estimate.cleared (e : Estimate) : Estimate := { e.emptied with step := 0, last := none }

/-- The estimate under a new configuration (R38). -/
def Estimate.reconfigured (capacity drum : Nat) (e : Estimate) : Estimate :=
  ({ e with anchor := e.fill, count := 0, step := stepOf capacity drum, divRun := 0 } : Estimate).refill.rehealth

/-! ## Threshold evaluation (R33 to R36) -/

/-- The access step (R34). -/
def accessStep (cfg : ChamberConfig) (c : ChamberNo) (s : State) : State :=
  match s.access c with
  | .opened => if s.fill c ≥ cfg.full then setAccess c .full s else s
  | .full => if s.fill c < cfg.full - 50 then setAccess c .opened s else s
  | _ => s

/-- The withdrawal step (R35, R115). -/
def withdrawalStep (cfg : ChamberConfig) (c : ChamberNo) (s : State) : State :=
  if s.fill c < cfg.request - 50 then
    let s := match s.roundEntry c with
      | some e => if e.state = .waiting ∧ e.forced = false then removeEntry c s else s
      | none => s
    setCandidate c false s
  else s

/-- The offer step (R36). -/
def offerStep (cfg : ChamberConfig) (c : ChamberNo) (s : State) : State :=
  if s.fill c ≥ cfg.request ∧ (s.roundEntry c).isNone ∧ s.candidate c = false then
    takeOffer c (s.access c = .full) s
  else s

/-- The promotion step (R36). -/
def promotionStep (c : ChamberNo) (s : State) : State :=
  if s.access c = .full ∧ (s.roundEntry c).any (fun e => e.state = .waiting) then promote c s else s

/-- Threshold evaluation of a configured chamber (R33). -/
def evaluate (c : ChamberNo) (s : State) : State :=
  match (s.chamber c).config with
  | none => s
  | some cfg => promotionStep c (offerStep cfg c (withdrawalStep cfg c (accessStep cfg c s)))

/-! ## Deposits and misses -/

/-- One deposit step (R22). An UNCONFIGURED chamber keeps A = k = E = 0 (R20). -/
def depositStep (c : ChamberNo) (s : State) : State :=
  if (s.chamber c).config.isNone then s
  else
    evaluate c (post (.chamber c)
      (s.onEstimate c fun e => ({ e with count := min 1000 (e.count + 1) } : Estimate).refill))

/-- One miss handed to the estimator (R31): a change of health posts (CHAMBER, chamber). -/
def takeMiss (c : ChamberNo) (s : State) : State :=
  let e := (s.chamber c).estimate
  let e' := ({ e with missRun := min 3 (e.missRun + 1) } : Estimate).rehealth
  let s := s.onEstimate c fun _ => e'
  if e'.health = e.health then s else post (.chamber c) s

/-! ## Readings (R23 to R30) -/

/-- The echo record brought into range (R23): echo time, quality and temperature. -/
def broughtIn (t q : Nat) (temperature : Int) : Nat × Nat × Int :=
  (min 40000 t, if t = 0 then 0 else min 15 q, max (-30) (min 50 temperature))

/-- Stage 0, the distance in millimetres (R24). -/
def distanceOf (t : Nat) (temperature : Int) : Nat :=
  (t * (3313 + 6 * temperature).toNat + 10000) / 20000

/-- Stage 1, the pile height (R25). -/
def heightOf (cfg : ChamberConfig) (d : Nat) : Nat := min cfg.usable (cfg.depth - d)

/-- Stage 2, the measured fill through the shape profile (R26). -/
def measuredFill (points : Vector Nat 9) (usable h : Nat) : Nat :=
  let sec := 8 * h / usable
  let r := 8 * h - sec * usable
  if hs : sec < 8 then
    let lo := look points ⟨sec, by omega⟩
    let hi := look points ⟨sec + 1, by omega⟩
    lo + ((hi - lo) * r + usable / 2) / usable
  else look points 8

/-- How a reading is taken (R27 to R30), from the estimate before it, the minimum quality, Tdown, and the brought-in
echo time, quality and measured fill. -/
def judge (e : Estimate) (minQuality tdown t q m : Nat) : ReadingOutcome :=
  if t = 0 ∨ q < minQuality then .lowQuality
  else if m ≥ e.fill - tdown then .accepted
  else if e.divRun ≥ 2 then .reAnchored
  else .divergent

/-- The estimate after a reading with that outcome and measured fill (R27 to R30). -/
def Estimate.after (o : ReadingOutcome) (m : Nat) (e : Estimate) : Estimate :=
  match o with
  | .lowQuality => ({ e with missRun := min 3 (e.missRun + 1) } : Estimate).rehealth
  | .accepted => e.anchorAt m
  | .reAnchored => { e.anchorAt m with reanchors := min 255 (e.reanchors + 1) }
  | .divergent => ({ e with divRun := e.divRun + 1, missRun := 0 } : Estimate).rehealth

/-- Threshold evaluation runs after ACCEPTED and RE-ANCHORED alone (R27 to R30). -/
def ReadingOutcome.reanchors : ReadingOutcome → Bool
  | .accepted | .reAnchored => true
  | _ => false

/-- The estimator takes a reading handed to it (R23 to R30, R32). -/
def takeReading (c : ChamberNo) (t q : Nat) (temperature : Int) (s : State) : State :=
  let ch := s.chamber c
  match ch.config with
  | none => s
  | some cfg =>
    let (t, q, temp) := broughtIn t q temperature
    let d := distanceOf t temp
    let h := heightOf cfg d
    let m := measuredFill (look s.ret.profiles cfg.profile) cfg.usable h
    let o := judge ch.estimate cfg.minQuality cfg.tdown t q m
    let rec' : Reading :=
      { time := s.now, echoTime := t, quality := q, temperature := temp, distance := d, height := h, measured := m,
        predicted := ch.estimate.fill, outcome := o }
    let s := post (.chamber c) (s.onEstimate c fun e => { e.after o m with last := some rec' })
    if o.reanchors then evaluate c s else s

end Sys2Proof.Machine
end

