-- ==== Sys2Proof/Machine/Visits.lean ====
section
/-! DEFINITION. Crew visits (Chapter 7, R119 to R132): phases, opening, closing, and the chambers that leave with
their node. -/

namespace Sys2Proof.Machine

/-- The visit with a chamber's phase changed. -/
def Visit.withPhase (c : ChamberNo) (ph : Phase) (v : Visit) : Visit :=
  { v with involved := v.involved.map fun i => if i.chamber = c then { i with phase := ph } else i }

/-- Changes a chamber's phase in the visit at a place of the table; a change of phase posts (VISIT, station) (R124). -/
def setPhaseAt (p : Fin 4) (c : ChamberNo) (ph : Phase) (s : State) : State :=
  match look s.ret.visits p with
  | none => s
  | some v => post (.visit v.station) (s.setVisits (put s.ret.visits p (some (v.withPhase c ph))))

/-- Changes a chamber's phase in the open visit that works on it. -/
def setPhase (c : ChamberNo) (ph : Phase) (s : State) : State :=
  match s.visitOf c with
  | none => s
  | some p => setPhaseAt p c ph s

/-! ## Closing (R129 to R131) -/

/-- The chamber's access state is LOCKING or LOCKED. -/
def lockedUp (a : Access) : Bool :=
  match a with
  | .locking | .locked => true
  | _ => false

/-- A chamber whose phase is not final, at the close of its visit, by the table of R130. A chamber that LINE RESET
has made OFFLINE keeps that state, and its slot is clear (R132). A chamber made OPEN or FULL is evaluated in its own turn,
before the next involved chamber is taken (DESIGN CHOICE, assumption log entry 44). -/
def closeInvolved (i : Involved) (s : State) : State :=
  if i.phase.final then s
  else if i.phase = .lifted then entryWaits i.chamber false s
  else
    let c := i.chamber
    if lockedUp (s.access c) then
      let s := match i.phase with
        | .locking => removePending (· = .lock) c s
        | .locked => postCommand c .release s
        | _ => s
      evaluate c (entryWaits c true (setAccess c (byFill s c) s))
    else entryWaits c true s

/-- The involved chambers that ended in a phase. -/
def Visit.ended (v : Visit) (ph : Phase) : Nat := v.involved.countP fun i => i.phase = ph

/-- The summary a closing visit leaves (R119). -/
def summaryOf (v : Visit) (o : VisitOutcome) (now : Seconds) : Summary :=
  { crew := v.crew, opened := v.opened, closed := now, outcome := o, emptied := v.ended .emptied,
    blocked := v.ended .blocked, left := v.ended .left, unfinished := v.involved.countP fun i => !i.phase.final }

/-- Closes the visit at a place of the table (R130): its chambers are taken, then the record leaves its place and the
summary is written. The (CHAMBER) and (ROUND) keys of the chambers join the outbox with their changes, before
(VISIT, station) (DESIGN CHOICE, assumption log entry 42). -/
def closeVisit (p : Fin 4) (o : VisitOutcome) (s : State) : State :=
  match look s.ret.visits p with
  | none => s
  | some v =>
    let s := eachOf v.involved closeInvolved s
    let s := s.setVisits (put s.ret.visits p none)
    let s := s.onRet fun r => { r with summaries := put r.summaries v.station (some (summaryOf v o s.now)) }
    post .round (post (.visit v.station) s)

/-- Completion of the visit at a place of the table, checked after a change to a final phase (R129). -/
def checkComplete (p : Fin 4) (s : State) : State :=
  match look s.ret.visits p with
  | none => s
  | some v => if v.involved.all (·.phase.final) then closeVisit p .complete s else s

/-- A chamber's phase in the open visit that works on it becomes final, its entry goes back to WAITING with its skip
count unchanged, `after` follows, and completion is checked (R123, R128). -/
def finishPhase (c : ChamberNo) (ph : Phase) (after : State → State) (s : State) : State :=
  match s.visitOf c with
  | none => after s
  | some p => checkComplete p (after (entryWaits c false (setPhaseAt p c ph s)))

/-- The station's open visit loses its unfinished chambers, which take phase LEFT, and closes COMPLETE (R132). -/
def visitLeft (st : StationNo) (s : State) : State :=
  match s.visitAt st with
  | none => s
  | some p =>
    match look s.ret.visits p with
    | none => s
    | some v =>
      let leave (i : Involved) (s : State) : State :=
        if i.phase.final then s else entryWaits i.chamber false (setPhaseAt p i.chamber .left s)
      closeVisit p .complete (eachOf v.involved leave s)

/-! ## Leaving PREPARING (R162 to R165) -/

/-- A change of power state: it records its cause and time and posts (LINE) (R162). -/
def changePower (p : PowerState) (cause : PowerCause) (s : State) : State :=
  post .line (s.onPower fun w => { w with state := p, cause := cause, changed := s.now })

/-- Sets the quiet deadline afresh: one quiet period from now, absent while the period is 0 (R163). -/
def setQuiet (s : State) : State := s.onPower fun w => { w with quiet := quietFrom s.ret.settings s.elapsed }

/-- A grant, a visit's opening or LINE WAKE taken in PREPARING abandons the preparation (R165). -/
def abandonPreparation (cause : PowerCause) (s : State) : State :=
  if s.main.line.power.state = .preparing then setQuiet (changePower .active cause s) else s

/-! ## Opening (R120, R121) -/

/-- The chambers that a visit at the station would involve (R121, step 1). -/
def State.wouldInvolve (s : State) (st : StationNo) (mode : VisitMode) : List ChamberNo :=
  (s.chambersOf st).filter fun c =>
    inService (s.access c) &&
      (mode = .all || (s.roundEntry c).any fun e => e.state = .waiting)

/-- Takes one chamber into an opening visit (R121, step 3). The visit record already names it with its phase. -/
def involve (st : StationNo) (c : ChamberNo) (s : State) : State :=
  let s := setAccess c .locking (entryInVisit c st s)
  if (s.session c).isNone then postCommand c .lock s else s

/-- Opens a visit (R121). The (CHAMBER) and (ROUND) keys of step 3's changes join the outbox with those changes, before
(VISIT, station) of step 4 (DESIGN CHOICE, assumption log entry 42). -/
def openVisit (p : Fin 4) (st : StationNo) (crew : CardNo) (mode : VisitMode) (s : State) : State :=
  let cs := s.wouldInvolve st mode
  let v : Visit :=
    { station := st, crew := crew, mode := mode, opened := s.now,
      deadline := some (s.deadlineIn s.ret.settings.visitWindow),
      involved := cs.map fun c => { chamber := c, phase := if (s.session c).isSome then .draining else .locking } }
  let s := eachOf cs (involve st) (s.setVisits (put s.ret.visits p (some v)))
  abandonPreparation .visit (post .round (post (.visit st) s))

/-- The round unit takes a crew card presented at chamber `c` of station `st` (R120). -/
def takeCrew (st : StationNo) (c : ChamberNo) (crew : CardNo) (mode : VisitMode) (s : State) : State :=
  match s.visitAt st with
  | some p =>
    if (look s.ret.visits p).any (fun v => v.crew = crew) then closeVisit p .closed s
    else postCommand c (.deny .visitOpen) s
  | none =>
    match lowest fun p => (look s.ret.visits p).isNone with
    | none => postCommand c (.deny .visitLimit) s
    | some p =>
      if (s.wouldInvolve st mode).isEmpty then postCommand c (.deny .nothingListed) s
      else openVisit p st crew mode s

end Sys2Proof.Machine
end

