-- ==== Sys2Proof/Machine/AccessUnit.lean ====
section
/-! DEFINITION. The access unit (Chapter 5) with the journal's appends (Chapter 6) and the card store's resolution
(R62, R63): closing sessions, deciding card presentations, and HATCH reports. -/

namespace Sys2Proof.Machine

/-! ## The journal (R99 to R107) -/

/-- Appends one record at the tail with the next sequence number (R99, R101); reaching the high-water mark posts
(JOURNAL) (R106). -/
def appendRecord (r : JournalRecord) (s : State) : State :=
  let s := s.onRet fun d =>
    { d with journal := d.journal ++ [{ r with sequence := d.nextSeq }], nextSeq := d.nextSeq + 1 }
  if s.ret.journal.length = Config.highWater then post .journal s else s

/-- The record of a session that closes with an outcome (R100). The record's charged flag says that the close added
one deposit to the account's used count. -/
def recordOf (c : ChamberNo) (fraction : Fraction) (ses : Session) (o : JournalOutcome) (k : Clock) (seq : BitVec 32) :
    JournalRecord :=
  { sequence := seq, closeTime := k.part, timeValid := !k.unset, card := ses.card, kind := ses.kind,
    account := ses.account, chamber := c, fraction := fraction, outcome := o,
    charged := ses.charged && o = .deposit }

/-! ## Closing a session (R85) -/

/-- The account after a charged session of it closes with an outcome, or with none after a failed UNLOCK (R59). -/
def Account.settled (o : Option JournalOutcome) (a : Account) : Account :=
  if o = some .deposit then { a with held := a.held - 1, used := min 65535 (a.used + 1) }
  else { a with held := a.held - 1 }

/-- Step 3 of R85. -/
def settleAccount (ses : Session) (o : Option JournalOutcome) (s : State) : State :=
  match ses.charged, ses.account with
  | true, some a => s.onAccount a (Account.settled o)
  | _, _ => s

/-- Step 4 of R85, on a state whose session place is empty already. With no outcome the room is freed, and room
taken that falls below 4096 posts (JOURNAL) (R107). The fraction of a chamber without configuration, which holds no
session (R77), is not used. -/
def settleJournal (c : ChamberNo) (ses : Session) (o : Option JournalOutcome) (s : State) : State :=
  match o with
  | some out =>
    let fraction := ((s.chamber c).config.map (·.fraction)).getD .residual
    appendRecord (recordOf c fraction ses out s.ret.clock s.ret.nextSeq) s
  | none => if s.roomTaken + 1 = Config.journalRoom then post .journal s else s

/-- Step 5 of R85: DEPOSIT and UNCONFIRMED hand the estimator one deposit step. -/
def countDeposit (c : ChamberNo) (o : Option JournalOutcome) (s : State) : State :=
  match o with
  | some .deposit | some .unconfirmed => depositStep c s
  | _ => s

/-- The drain of a DRAINING chamber ends: LOCK is posted and the phase becomes LOCKING (R96, R122). -/
def endDrain (c : ChamberNo) (s : State) : State :=
  if s.phaseOf c = some .draining then setPhase c .locking (postCommand c .lock s) else s

/-- Closes a chamber's session (R85). `o`: the outcome, or none for a failed UNLOCK. `drain`: whether the round unit
posts LOCK to a DRAINING chamber, which it does not on the closes that R122 names. -/
def closeSession (c : ChamberNo) (o : Option JournalOutcome) (drain : Bool) (s : State) : State :=
  match s.session c with
  | none => s
  | some ses =>
    let s := s.setSession c none
    let s := if ses.phase = .posted then removePending isUnlock c s else s
    let s := countDeposit c o (settleJournal c ses o (settleAccount ses o s))
    if drain then endDrain c s else s

/-! ## Resolving a card (R62, R63) -/

/-- The card record of a card number (R56). -/
def State.findCard (s : State) (n : CardNo) : Option Card := s.ret.cards.find? (·.number = n)

/-- A card number matches a template (R62). -/
def Template.matches (t : Template) (n : CardNo) : Bool := t.enabled && (n ^^^ t.value) &&& t.mask = 0

/-- The slot of the first matching template (R62). -/
def State.firstTemplate (s : State) (n : CardNo) : Option (Fin 8) :=
  lowest fun i => (look s.ret.templates i).matches n

/-- The identity of a card number, with what it carries (R63). -/
inductive Identity where
  | resident (card : Card)
  | guest (slot : Fin 8) (rights : FractionSet) (account : Option AccountNo)
  | crew (slot : Fin 8) (mode : VisitMode)
  | unknown
  deriving DecidableEq, Repr

/-- The card store resolves a card number (R63). -/
def State.resolve (s : State) (n : CardNo) : Identity :=
  match s.findCard n with
  | some card => .resident card
  | none =>
    match s.firstTemplate n with
    | none => .unknown
    | some i =>
      match (look s.ret.templates i).kind with
      | .guest rights account => .guest i rights account
      | .crew mode => .crew i mode

/-! ## Deciding a presentation (R80 to R83) -/

/-- The fraction's number (section 10.5). -/
def Fraction.code : Fraction → Nat
  | .residual => 0
  | .paper => 1
  | .glass => 2
  | .packaging => 3
  | .organic => 4

/-- A fraction set holds a fraction. -/
def holds (set : FractionSet) (f : Fraction) : Bool := set.getLsbD f.code

/-- What a presentation would open (R78, R79). -/
structure Grant where
  kind    : SessionKind
  account : Option AccountNo
  charged : Bool
  deriving DecidableEq, Repr

/-- How a presentation is decided (R81). -/
inductive Decision where
  | granted (g : Grant)
  | denied (code : DenyCode)
  | crew (mode : VisitMode)
  deriving DecidableEq, Repr

/-- Checks 4 to 9 of R81, for a card or template with these rights that would open a session of this kind and
account. -/
def State.decideFrom4 (s : State) (c : ChamberNo) (cfg : ChamberConfig) (rights : FractionSet) (kind : SessionKind)
    (account : Option AccountNo) : Decision :=
  let charged := holds s.ret.settings.charged cfg.fraction && account.isSome
  let acct := account.map (look s.ret.accounts)
  if !holds rights cfg.fraction then .denied .fraction
  else if acct.any (fun a => a.state = .unused) then .denied .noAccount
  else if acct.any (fun a => a.state = .closed) then .denied .accountClosed
  else match s.access c with
    | .full => .denied .full
    | .locking | .locked | .lifted => .denied .emptying
    | .blocked => .denied .blocked
    | .offline | .unconfigured => .denied .noChamber
    | .opened =>
      if (s.session c).isSome then .denied .hatchBusy
      else if charged && acct.any (fun a =>
          match a.allowance with
          | .limited n => !(a.used + a.held < n + a.overdraft)
          | .unlimited => false) then .denied .allowance
      else if !(s.roomTaken < Config.journalRoom) then .denied .journalFull
      else .granted { kind := kind, account := account, charged := charged }

/-- The checks of R81 on a presentation that R80 sends on. -/
def State.decide (s : State) (st : StationNo) (c : ChamberNo) (cfg : ChamberConfig) (card : CardNo) : Decision :=
  if card = 0 then .denied .unknownCard
  else match s.resolve card with
    | .unknown => .denied .unknownCard
    | .crew _ mode => .crew mode
    | .resident r =>
      match r.state with
      | .lost => .denied .lost
      | .suspended => .denied .suspended
      | .active =>
        if r.scope.any (fun set => !set.getLsbD st.val) then .denied .wrongStation
        else s.decideFrom4 c cfg r.rights .resident (some r.account)
    | .guest _ rights account => s.decideFrom4 c cfg rights .guest account

/-- The card's last use becomes a station and a time (R57). -/
def useCard (n : CardNo) (st : StationNo) (s : State) : State :=
  s.onRet fun r =>
    { r with cards := r.cards.map fun k =>
        if k.number = n then { k with lastUse := some { station := st, time := r.clock.part } } else k }

/-- The session a grant opens (R78). -/
def newSession (card : CardNo) (g : Grant) (window : Nat) (s : State) : Session :=
  { card := card, kind := g.kind, account := g.account, charged := g.charged, granted := s.now,
    guard := some (s.deadlineIn (window + Config.guardSpan)), phase := .posted }

/-- Step 2 of R82. -/
def reserve (g : Grant) (s : State) : State :=
  match g.charged, g.account with
  | true, some a => s.onAccount a fun k => { k with held := k.held + 1 }
  | _, _ => s

/-- A grant (R82). -/
def grant (st : StationNo) (c : ChamberNo) (cfg : ChamberConfig) (card : CardNo) (g : Grant) (s : State) : State :=
  let s := reserve g (s.setSession c (some (newSession card g cfg.window s)))
  let s := if s.roomTaken = Config.journalRoom then post .journal s else s
  let s := if g.kind = .resident then useCard card st s else s
  abandonPreparation .grant (postCommand c (.unlock cfg.window) (disturb c s))

/-- A refusal (R83). -/
def refuse (c : ChamberNo) (card : CardNo) (code : DenyCode) (s : State) : State :=
  let s := postCommand c (.deny code) s
  if code = .lost then postWith (.alarm .lostCardSeen c) card 0 s else s

/-- Takes a CARD record (R80, R81): the station handed over, the slot of the reader and the card number. -/
def takeCard (station : Option StationNo) (sl : SlotNo) (card : CardNo) (s : State) : State :=
  match station with
  | none => s
  | some st =>
    match s.mapped st sl with
    | none => s
    | some c =>
      match (s.chamber c).config with
      | none => s
      | some cfg =>
        if s.access c = .offline then
          if (s.station st).node = .online then postCommand c (.deny .noChamber) s else s
        else match s.decide st c cfg card with
          | .granted g => grant st c cfg card g s
          | .denied code => refuse c card code s
          | .crew mode => takeCrew st c card mode s

/-! ## HATCH reports (R86, R88) -/

/-- Takes a HATCH record: the report CYCLE_DONE closes an ANSWERED session DEPOSIT and ABANDONED closes it
ABANDONED; any other report is late or unknown and is ignored. -/
def takeHatch (station : Option StationNo) (sl : SlotNo) (report : Byte) (s : State) : State :=
  match station.bind (fun st => s.mapped st sl) with
  | none => s
  | some c =>
    match s.session c with
    | none => s
    | some ses =>
      if ses.phase = .answered ∧ s.access c ≠ .offline then
        if report = 1 then closeSession c (some .deposit) true s
        else if report = 2 then closeSession c (some .abandoned) true s
        else s
      else s

end Sys2Proof.Machine
end

