-- ==== Sys2Proof/Machine/Lifts.lean ====
section
/-! DEFINITION. Lifts, emptying and return to service: the LIFT rules of the round unit (R124 to R128), the emptying
of a chamber (R126, R37), return to service (R7) and the ends of LOCK and RELEASE (R123, R127). -/

namespace Sys2Proof.Machine

/-! ## Lift mark and return deadline (R9, R128) -/

/-- Sets the lift mark with the chamber's E and the time, and the return deadline (R124, R128). -/
def markLift (c : ChamberNo) (s : State) : State :=
  (s.onChamber c fun ch => { ch with liftMark := some { fill := ch.estimate.fill, time := s.now } }).setReturn c
    (some (s.deadlineIn s.ret.settings.returnLimit))

/-- Sets the return deadline of a chamber that has none (R128). -/
def ensureReturn (c : ChamberNo) (s : State) : State :=
  if (look s.main.returns c).isNone then s.setReturn c (some (s.deadlineIn s.ret.settings.returnLimit)) else s

/-! ## Return to service (R7) -/

/-- The chamber's station is ONLINE and its slot lies below the station's reported slot count (R7). -/
def State.served (s : State) (cfg : ChamberConfig) : Bool :=
  (s.station cfg.station).node = .online && cfg.slot.val < (s.station cfg.station).slotCount

/-- Makes a chamber OPEN or FULL according to E, and runs threshold evaluation (R7). -/
def openByFill (c : ChamberNo) (s : State) : State := evaluate c (setAccess c (byFill s c) s)

/-- Returns a chamber to service (R7). -/
def returnToService (c : ChamberNo) (s : State) : State :=
  match (s.chamber c).config with
  | none => s
  | some cfg =>
    if !s.served cfg then setAccess c .offline s
    else if (s.chamber c).liftMark.isSome then ensureReturn c (setAccess c .lifted s)
    else openByFill c s

/-! ## Emptying (R126) -/

/-- Steps 1 to 8 of R126: the estimate, lift mark, candidate flag, entry, RELEASE, due mark, access state and
threshold evaluation of a chamber set back in its pit empty. -/
def emptyChamber (c : ChamberNo) (s : State) : State :=
  let s := post (.chamber c) (s.onEstimate c Estimate.emptied)
  let s := (s.onChamber c fun ch => { ch with liftMark := none }).setReturn c none
  let s := removeEntry c (setCandidate c false s)
  let s := postCommand c .release s
  let s := s.onChamber c fun ch => { ch with due := true }
  evaluate c (setAccess c .opened s)

/-- Step 9 of R126 for the visit at a place of the table. -/
def visitEmptied (c : ChamberNo) (p : Fin 4) (s : State) : State :=
  match (look s.ret.visits p).bind (·.phaseOf c) with
  | some .lifted | some .blocked => checkComplete p (setPhaseAt p c .emptied s)
  | _ => s

/-- The chamber is emptied by its return (R126). Where several open visits name it, step 9 is taken for each in the order of
their places (DEDUCED, assumption log entry 37). -/
def emptied (c : ChamberNo) (s : State) : State := eachOf (indexes 4) (visitEmptied c) (emptyChamber c s)

/-! ## LIFT reports (R124, R125) -/

/-- Lift of a LOCKED chamber (R124). -/
def liftLocked (c : ChamberNo) (s : State) : State := markLift c (setPhase c .lifted (setAccess c .lifted s))

/-- Early lift of a LOCKING chamber (R124). -/
def liftEarly (c : ChamberNo) (s : State) : State :=
  let draining : Bool := s.phaseOf c = some .draining
  let s := markLift c (closeSession c (some .unconfirmed) false (setAccess c .lifted s))
  let s := setPhase c .lifted s
  if draining then postCommand c .lock s else s

/-- Unscheduled lift of an OPEN or FULL chamber (R125). -/
def liftUnscheduled (c : ChamberNo) (s : State) : State :=
  let s := markLift c (closeSession c (some .unconfirmed) true (setAccess c .lifted s))
  alarm .unscheduledLift c (postCommand c .lock s)

/-- Lift of a BLOCKED chamber without lift mark (R124). -/
def liftBlocked (c : ChamberNo) (s : State) : State := alarm .unscheduledLift c (markLift c s)

/-- A LIFT report OUT, by access state (R124). -/
def takeOut (c : ChamberNo) (s : State) : State :=
  match s.access c with
  | .opened | .full => liftUnscheduled c s
  | .locking => liftEarly c s
  | .locked => liftLocked c s
  | .blocked => if (s.chamber c).liftMark.isNone then liftBlocked c s else s
  | _ => s

/-- A LIFT report IN, by access state (R124). -/
def takeIn (c : ChamberNo) (s : State) : State :=
  match s.access c with
  | .lifted => emptied c s
  | .blocked => if (s.chamber c).liftMark.isSome then emptied c s else s
  | _ => s

/-- Takes a LIFT record (R124): report 1 is OUT, 2 is IN and 3 is TAMPER (section 9.3); another code is ignored. -/
def takeLift (station : Option StationNo) (sl : SlotNo) (report : Byte) (s : State) : State :=
  match station.bind (fun st => s.mapped st sl) with
  | none => s
  | some c =>
    if s.access c = .offline ∨ s.access c = .unconfigured then s
    else if report = 1 then takeOut c s
    else if report = 2 then takeIn c s
    else if report = 3 then alarm .tamper c s
    else s

/-! ## The ends of LOCK and RELEASE (R123, R127) -/

/-- A LOCK transaction has ended (R123). -/
def lockEnded (c : ChamberNo) (answered : Bool) (s : State) : State :=
  match s.access c, s.phaseOf c with
  | .locking, some .locking =>
    if answered then removePending (· = .lock) c (setPhase c .locked (setAccess c .locked s))
    else
      finishPhase c .blocked (fun s => alarm .lockFailed c (removePending (· = .lock) c s)) (setAccess c .blocked s)
  | .locking, some .draining => postCommand c .release s
  | .lifted, _ | .blocked, _ => if answered then s else alarm .lockFailed c s
  | .opened, _ | .full, _ => postCommand c .release s
  | _, _ => s

/-- A RELEASE transaction has ended (R127). -/
def releaseEnded (c : ChamberNo) (answered : Bool) (s : State) : State :=
  if answered then s
  else
    let s := alarm .releaseFailed c s
    if inService (s.access c) ∧ (s.session c).isNone then setAccess c .blocked s else s

/-! ## The return deadline (R128) -/

/-- The return deadline of a chamber is reached (R128). -/
def returnPassed (c : ChamberNo) (s : State) : State :=
  match s.access c with
  | .lifted =>
    let s := alarm .notReturned c ((setAccess c .blocked s).setReturn c none)
    finishPhase c .blocked id s
  | .offline | .blocked => s.setReturn c (some (s.deadlineIn s.ret.settings.returnLimit))
  | _ => s

end Sys2Proof.Machine
end

