-- ==== Sys2Proof/Machine/Schedule.lean ====
section
/-! DEFINITION. The measurement scheduler (Chapter 3): choosing a chamber, measurements in flight, full sweeps, and
how each measurement ends. -/

namespace Sys2Proof.Machine

/-! ## Choosing (R43, R44) -/

/-- A due chamber is eligible for a measurement turn (R43). -/
def State.eligible (s : State) (c : ChamberNo) : Bool :=
  match (s.chamber c).config with
  | none => false
  | some cfg =>
    (s.station cfg.station).node = .online && inService (s.access c) && (s.session c).isNone &&
      (look s.main.sched.inflight cfg.station).isNone &&
      (s.main.line.power.state = .active || s.main.line.power.state = .preparing) && !s.censusRunning

/-- The chambers in the order of the sweep: from the pointer up to 63, then from 0 up to the one before it (R44). -/
def sweepOrder (pointer : ChamberNo) : List ChamberNo :=
  (indexes 64).filter (fun c => pointer ≤ c) ++ (indexes 64).filter (fun c => c < pointer)

/-- The first chamber that is due and eligible (R44). -/
def State.chosen (s : State) : Option ChamberNo :=
  (sweepOrder s.main.sched.pointer).find? fun c => s.isDue c && s.eligible c

/-- Steps 1 to 4 of R44 for the chamber found. -/
def issueMeasure (c : ChamberNo) (cfg : ChamberConfig) (s : State) : State :=
  let r : Inflight := { chamber := c, slot := cfg.slot, issued := s.now, phase := .sending, disturbed := false }
  let s := s.setInflight cfg.station (some r)
  let s := s.onChamber c fun ch => { ch with lastAttempt := some s.elapsed, due := false }
  (dropOwed c s).onSched fun d => { d with pointer := c + 1 }

/-! ## Sweeps (R53) -/

/-- A full sweep request (R53). -/
def requestSweep (s : State) : State :=
  let wanted := (indexes 64).filter fun c => (s.chamber c).config.isSome
  eachOf wanted (fun c s =>
    let s := s.onChamber c fun ch => { ch with due := true }
    if inService (s.access c) then s.onSched fun d => { d with owed := put d.owed c true } else s) s

/-! ## Ends (R46 to R51) -/

/-- A measurement ends DISTURBED: the chamber's due mark is set, with no effect on an UNCONFIGURED chamber (R49). -/
def endDisturbed (c : ChamberNo) (s : State) : State :=
  if (s.chamber c).config.isSome then s.onChamber c fun ch => { ch with due := true } else s

/-- A MEASURE transaction of a station's record has ended (R46). -/
def measureEnded (st : StationNo) (answered : Bool) (s : State) : State :=
  match look s.main.sched.inflight st with
  | none => s
  | some r =>
    if answered then s.setInflight st (some { r with phase := .waiting (s.deadlineIn Config.timeoutSpan) })
    else
      let s := s.setInflight st none
      if r.disturbed then s else takeMiss r.chamber s

/-- Takes an ECHO record (R48). -/
def takeEcho (station : Option StationNo) (sl : SlotNo) (t q : Nat) (temperature : Int) (s : State) : State :=
  match station with
  | none => s
  | some st =>
    match look s.main.sched.inflight st with
    | none => s
    | some r =>
      if r.slot = sl then
        let s := s.setInflight st none
        if r.disturbed then endDisturbed r.chamber s else takeReading r.chamber t q temperature s
      else s

/-- A WAITING record's timeout deadline is reached with no ECHO taken (R50). -/
def measureTimedOut (st : StationNo) (r : Inflight) (s : State) : State :=
  let s := s.setInflight st none
  if r.disturbed then endDisturbed r.chamber s else takeMiss r.chamber s

/-- Clears a station's in-flight record; the turn that serves it is abandoned (R51, R135). -/
def clearInflight (st : StationNo) (s : State) : State := abandonTurn (servesMeasure st) (s.setInflight st none)

/-- When a census ends, every WAITING record gets a new timeout deadline (R50). -/
def moveTimeouts (s : State) : State :=
  let d := s.deadlineIn Config.timeoutSpan
  s.onSched fun x =>
    { x with inflight := mapAll (Option.map fun r =>
        match r.phase with
        | .waiting _ => { r with phase := .waiting d }
        | .sending => r) x.inflight }

/-- When a census ends, a guard deadline that falls earlier than 10 s after it is moved to 10 s after it (R89). -/
def moveGuards (s : State) : State :=
  let d := s.deadlineIn Config.guardSpan
  s.onRet fun r =>
    { r with sessions := mapAll (Option.map fun ses =>
        match ses.guard with
        | some g => if secondsLeft g s.elapsed < Config.guardSpan then { ses with guard := some d } else ses
        | none => ses) r.sessions }

end Sys2Proof.Machine
end

