-- ==== Sys2Proof/Machine/LineEngine.lean ====
section
/-! DEFINITION. The line engine (Chapters 8 and 9): frames of the turns, the line address table, loss and release of
nodes, the census, attentions, line power and the arbiter. -/

namespace Sys2Proof.Machine

/-! ## Codes of the line (section 8.3) -/

def codeCensusOpen : Byte := 0x01
def codeContend : Byte := 0x02
def codeAssign : Byte := 0x03
def codeStatus : Byte := 0x04
def codeQuery : Byte := 0x08
def codeRead : Byte := 0x09
def codeUnlock : Byte := 0x10
def codeDeny : Byte := 0x11
def codeLock : Byte := 0x12
def codeRelease : Byte := 0x13
def codeMeasure : Byte := 0x18
def codeDormant : Byte := 0x20
def codeDropAddress : Byte := 0x21

/-- The deny number (section 5.2.1). -/
def DenyCode.number : DenyCode → Nat
  | .noChamber => 1
  | .unknownCard => 2
  | .lost => 3
  | .suspended => 4
  | .wrongStation => 5
  | .fraction => 6
  | .noAccount => 7
  | .accountClosed => 8
  | .full => 9
  | .emptying => 10
  | .blocked => 11
  | .hatchBusy => 12
  | .allowance => 13
  | .journalFull => 14
  | .visitOpen => 15
  | .visitLimit => 16
  | .nothingListed => 17

/-- The code and payload of a slot command (section 8.3). -/
def commandFrame (a : AddrNo) (sl : SlotNo) (cmd : Command) : List Byte :=
  match cmd with
  | .unlock w => lineFrame (addrByte a) codeUnlock (nat8 sl.val ++ nat8 w)
  | .deny code => lineFrame (addrByte a) codeDeny (nat8 sl.val ++ nat8 code.number)
  | .lock => lineFrame (addrByte a) codeLock (nat8 sl.val)
  | .release => lineFrame (addrByte a) codeRelease (nat8 sl.val)

/-- The code of a slot command. -/
def Command.code : Command → Byte
  | .unlock _ => codeUnlock
  | .deny _ => codeDeny
  | .lock => codeLock
  | .release => codeRelease

/-- The held-address map of CENSUS_OPEN (R147): bit a - 1 set for each address a in the table. -/
def State.heldMap (s : State) : BitVec 16 :=
  (indexes 16).foldl (fun m a => if (s.entry a).isSome then m ||| (1 <<< a.val) else m) 0

/-- The attention class's number. -/
def AttnClass.number : AttnClass → Nat
  | .lift => 0
  | .hatch => 1
  | .card => 2
  | .echo => 3

/-- The attention class of a number. -/
def attnClassOf (n : Nat) : Option AttnClass :=
  match n with
  | 0 => some .lift
  | 1 => some .hatch
  | 2 => some .card
  | 3 => some .echo
  | _ => none

/-! ## Turns (R135) -/

/-- Starts a turn with its frame, under the response window as it stands (R138). -/
def startTurn (kind : TurnKind) (frame : List Byte) (s : State) : State :=
  s.onLine fun l =>
    { l with
      turn := some { kind := kind, frame := frame, repeated := false, windowMs := s.ret.settings.responseWindow }
      lastQuery := kind = .query }

/-! ## The line address table (R140 to R143) -/

/-- The lowest address that is neither in the table nor withheld (R140). -/
def State.freeAddress (s : State) : Option AddrNo :=
  lowest fun a => (s.entry a).isNone && !look s.main.line.withheld a

/-- The address whose entry holds a serial. -/
def State.addressOf (s : State) (serial : Serial) : Option AddrNo :=
  lowest fun a => (s.entry a).any (fun e => e.serial = serial)

/-- The station bound to a serial (R14). -/
def State.stationOf (s : State) (serial : Serial) : Option StationNo :=
  lowest fun st => (s.station st).serial = some serial

/-- Withholds an address (R140). -/
def withhold (a : AddrNo) (s : State) : State := s.onLine fun l => { l with withheld := put l.withheld a true }

/-- Takes an address out of the table and withholds it; a won attention of it is dropped (R158), and so is its
binding STATUS (R153). -/
def removeAddress (a : AddrNo) (s : State) : State :=
  let s := withhold a (s.setEntry a none)
  let s := s.onLine fun l =>
    { l with attention :=
        if l.attention.won.any (fun w => w.2 = a) then { l.attention with won := none } else l.attention }
  abandonTurn (servesBinding a) s

/-- The effects of a station's going off line on its measurement, chambers, slots, sessions and visit (R142 steps 2
to 5, R15 step 1). Step 3 gives no order among the chambers: here they are taken by rising number (DESIGN CHOICE, assumption
log entry 39). -/
def stationOut (st : StationNo) (s : State) : State :=
  let s := clearInflight st s
  let cs := s.chambersOf st
  let s := eachOf cs (fun c s => clearSlot c (setAccess c .offline s)) s
  let s := eachOf cs (fun c s => closeSession c (some .unconfirmed) false s) s
  visitLeft st s

/-- Loss of the bound node at an address (R142). -/
def loseNode (a : AddrNo) (st : StationNo) (serial : Serial) (s : State) : State :=
  let s := (removeAddress a s).onStation st fun x => { x with address := none, node := .offline, missRun := 0 }
  postNode a serial (stationOut st s)

/-- Release of the unbound node at an address (R143). -/
def releaseNode (a : AddrNo) (serial : Serial) (s : State) : State := postNode a serial (removeAddress a s)

/-- Takes out the entry of an address: a bound node is lost, an unbound one released (R148). -/
def takeOutEntry (a : AddrNo) (s : State) : State :=
  match s.entry a with
  | none => s
  | some e =>
    match e.countsBound, e.station with
    | true, some st => loseNode a st e.serial s
    | _, _ => releaseNode a e.serial s

/-- Steps 2 and 3 of R139: the miss run of the node addressed is updated (R141), and at 3 the node is lost or
released. -/
def countMiss (a : AddrNo) (answered : Bool) (s : State) : State :=
  match s.entry a with
  | none => s
  | some e =>
    match e.countsBound, e.station with
    | true, some st =>
      let n := if answered then 0 else (s.station st).missRun + 1
      let s := s.onStation st fun x => { x with missRun := n }
      if n ≥ 3 then loseNode a st e.serial s else s
    | _, _ =>
      let n := if answered then 0 else e.missRun + 1
      let s := s.setEntry a (some { e with missRun := n })
      if n ≥ 3 then releaseNode a e.serial s else s

/-- The line becomes free (R139, step 4). -/
def freeLine (s : State) : State := s.setTurn none

/-! ## Line power (R162 to R168) -/

/-- Entering PREPARING (R163): the quiet deadline is removed and a full sweep requested. -/
def enterPreparing (cause : PowerCause) (s : State) : State :=
  requestSweep ((changePower .preparing cause s).onPower fun w => { w with quiet := none })

/-- Leaving DORMANT for WAKING (R167). -/
def wake (cause : PowerCause) (s : State) : State :=
  (changePower .waking cause s).onPower fun w =>
    { w with dormant := none, lpw := .full, settleMs := some Config.settleSpanMs }

/-! ## Census (R145 to R152) -/

/-- A census request taken from inside the part (R146). -/
def requestCensus (s : State) : State :=
  s.onCensus fun k =>
    match k.state with
    | .running => { k with kept := true }
    | _ => { k with state := .pending }

/-- The end of a census (R152). -/
def endCensus (s : State) : State :=
  let bound := s.main.line.census.bound
  let s := s.onCensus fun k =>
    { k with state := if k.kept then .pending else .idle, kept := false,
             period := some (s.deadlineIn s.ret.settings.censusPeriod) }
  let s := moveGuards (moveTimeouts s)
  post .line (if bound then requestSweep s else s)

/-- What a STATUS answer carries (section 8.3): the serial, the slot count and one report for each slot 0..3. -/
structure StatusAnswer where
  serial  : Serial
  count   : Byte
  reports : Vector SlotReport 4
  deriving DecidableEq, Repr

/-- Reads the payload of a STATUS answer (section 8.3): serial, slot count and four slot report bytes, with what those say
beside them. A payload of another length is no answer (R136). -/
def readStatus (reports : Vector SlotReport 4) (payload : List Byte) : Option StatusAnswer :=
  match payload with
  | [a, b, c, d, e, f, count, _, _, _, _] => some { serial := join48 a b c d e f, count := count, reports := reports }
  | _ => none

/-- Reconciles one chamber of a station made ONLINE by its slot report and its lift mark (R151). -/
def reconcileChamber (st : StationNo) (reports : Vector SlotReport 4) (c : ChamberNo) (s : State) : State :=
  match (s.chamber c).config with
  | none => s
  | some cfg =>
    let r := look reports cfg.slot
    let hold (s : State) : State := if r.hatch = .serviceLocked then s else postCommand c .lock s
    if !(cfg.slot.val < (s.station st).slotCount) then s
    else match (s.chamber c).liftMark.isSome, r.lift with
      | false, .atHome =>
        let s := openByFill c s
        if r.hatch = .serviceLocked then postCommand c .release s else s
      | false, .out => alarm .unscheduledLift c (hold (markLift c (setAccess c .lifted s)))
      | true, .out => hold (ensureReturn c (setAccess c .lifted s))
      | true, .atHome => emptyChamber c s

/-- Makes a station ONLINE with an entry's address from a STATUS answer: the entry takes the station, the station
its address and slot count, and its chambers are reconciled (R150, R151). -/
def bringOnline (a : AddrNo) (st : StationNo) (ans : StatusAnswer) (s : State) : State :=
  let s := s.setEntry a ((s.entry a).map fun e => { e with station := some st, binding := .none, missRun := 0 })
  let s := s.onStation st fun x =>
    { x with address := some a, node := .online, missRun := 0, slotCount := ans.count.toNat }
  eachOf (s.chambersOf st) (reconcileChamber st ans.reports) s

/-- The next census step (R145). -/
def nextStep (step : CensusStep) (s : State) : State := s.onCensus fun k => { k with next := step }

/-- A census STATUS is answered (R150). -/
def statusAnswered (a : AddrNo) (ans : StatusAnswer) (s : State) : State :=
  let s := match s.stationOf ans.serial with
    | some st =>
      let s := bringOnline a st ans s
      s.onCensus fun k => { k with bound := true }
    | none => s
  nextStep .contend (postNode a ans.serial s)

/-- A census STATUS fails (R150). -/
def statusFailed (a : AddrNo) (s : State) : State := nextStep .contend (removeAddress a s)

/-- A binding STATUS is answered (R153). -/
def bindingAnswered (a : AddrNo) (st : StationNo) (ans : StatusAnswer) (s : State) : State :=
  requestSweep (postNode a ans.serial (bringOnline a st ans s))

/-- A binding STATUS fails (R153). -/
def bindingFailed (a : AddrNo) (serial : Serial) (s : State) : State := postNode a serial (removeAddress a s)

/-- An ASSIGN is answered (R149): an entry is made, and the address's toggle is set to 0 (R158). -/
def assignAnswered (a : AddrNo) (serial : Serial) (s : State) : State :=
  let s := s.setEntry a (some { serial := serial, station := none, missRun := 0, binding := .none })
  let s := s.onLine fun l =>
    { l with attention := { l.attention with toggles := put l.attention.toggles a false } }
  nextStep .status s

/-- An ASSIGN fails (R149). -/
def assignFailed (a : AddrNo) (s : State) : State := endCensus (withhold a s)

/-- The window of CONTEND is read (R148). -/
def takeContend (presence : Bool) (serial : Serial) (s : State) : State :=
  if !presence then endCensus s
  else
    let s := match s.addressOf serial with
      | some a => takeOutEntry a s
      | none => s
    match s.freeAddress with
    | none => postWith (.alarm .lineFull 0) 0 0 (endCensus s)
    | some a => nextStep .assign (s.onCensus fun k => { k with serialRead := serial, given := a })

/-! ## Attentions (R156 to R161) -/

/-- A record that a read-out carries, by its class and payload bytes 2 and on (section 9.3). -/
inductive AttnRecord where
  | lift (slot : SlotNo) (report : Byte)
  | hatch (slot : SlotNo) (report : Byte)
  | card (slot : SlotNo) (number : CardNo)
  | echo (slot : SlotNo) (time : BitVec 16) (quality temperature : Byte)
  deriving DecidableEq, Repr

/-- A slot byte 0..3. -/
def slotOf (b : Byte) : Option SlotNo := if h : b.toNat < 4 then some ⟨b.toNat, h⟩ else none

/-- The payload of an ATTN_READ answer to a read of a class (section 9.3): none where it is no answer (R136),
`some none` where it carries no record. -/
def readAnswer (cls : AttnClass) (payload : List Byte) : Option (Option AttnRecord) :=
  match payload with
  | [k] => if k.toNat = cls.number then some none else none
  | [k, sl, r] =>
    if k.toNat = cls.number then
      match cls with
      | .lift => (slotOf sl).map fun x => some (.lift x r)
      | .hatch => (slotOf sl).map fun x => some (.hatch x r)
      | _ => none
    else none
  | [k, sl, t1, t0, q, temp] =>
    if k.toNat = cls.number ∧ cls = .echo then
      (slotOf sl).map fun x => some (.echo x (join16 t1 t0) q temp)
    else none
  | [k, sl, a, b, c, d, e] =>
    if k.toNat = cls.number ∧ cls = .card then
      (slotOf sl).map fun x => some (.card x (join40 a b c d e))
    else none
  | _ => none

/-- Hands a record to its owner (R161). A record of class 0, 1 or 2 handed over while the line is ACTIVE sets the
quiet deadline (R163). -/
def handOver (station : Option StationNo) (r : AttnRecord) (s : State) : State :=
  let quieted : State := if s.main.line.power.state = .active then setQuiet s else s
  match r with
  | .lift sl report => takeLift station sl report quieted
  | .hatch sl report => takeHatch station sl report quieted
  | .card sl number => takeCard station sl number quieted
  | .echo sl t q temp => takeEcho station sl t.toNat q.toNat temp.toInt s

/-- A read-out is answered (R159): the won attention is cleared, the toggle is flipped, and a record is handed
over. -/
def readAnswered (a : AddrNo) (rec' : Option AttnRecord) (s : State) : State :=
  let s := s.onLine fun l =>
    { l with attention := { won := none, toggles := put l.attention.toggles a (!look l.attention.toggles a) } }
  match rec' with
  | some r => handOver (s.handedStation a) r s
  | none => s

/-- The window of an attention query is read (R157). -/
def takeQuery (presence : Bool) (word : Byte) (s : State) : State :=
  if !presence then s
  else
    match attnClassOf (word.toNat / 32) with
    | none => s
    | some cls =>
      let n := word.toNat % 32
      if h : 1 ≤ n ∧ n ≤ 16 then
        let a : AddrNo := ⟨n - 1, by omega⟩
        if (s.entry a).isSome then s.onLine fun l => { l with attention := { l.attention with won := some (cls, a) } }
        else s
      else s

/-! ## The arbiter (R144, R166) -/

/-- The free choice among several things that wait at once (`Config.freeChoice`); a single one is taken without a
choice. -/
def pickFree {α : Type} (l : List α) (s : State) : Option α × State :=
  match l with
  | [] => (none, s)
  | [x] => (some x, s)
  | x :: rest =>
    (some ((x :: rest).getD (Config.freeChoice s.freeCount % (rest.length + 1)) x),
      { s with freeCount := s.freeCount + 1 })

/-- The read-out of a won attention (R159). -/
def startRead (cls : AttnClass) (a : AddrNo) (s : State) : State :=
  startTurn (.read cls a) (lineFrame (addrByte a) codeRead
    (nat8 cls.number ++ [flagByte (look s.main.line.attention.toggles a)])) s

/-- The line address of the chamber's ONLINE station, with its slot (R10). -/
def State.reach (s : State) (c : ChamberNo) : Option (AddrNo × SlotNo) :=
  match (s.chamber c).config with
  | none => none
  | some cfg =>
    if (s.station cfg.station).node = .online then (s.station cfg.station).address.map fun a => (a, cfg.slot) else none

/-- Takes the pending command of a chamber into its sending place and sends it; a session's POSTED UNLOCK becomes SENT
(R10, R78). -/
def sendPending (c : ChamberNo) (a : AddrNo) (sl : SlotNo) (cmd : Command) (s : State) : State :=
  let s := (s.setSlot c { pending := none, sending := some cmd }).setPosting (s.main.posting.filter (· ≠ c))
  let s := match s.session c with
    | some ses =>
      if isUnlock cmd ∧ ses.phase = .posted then s.setSession c (some { ses with phase := .sent }) else s
    | none => s
  startTurn (.command c a) (commandFrame a sl cmd) s

/-- Serves the posting order from its head: a chamber whose station is not ONLINE has its command discarded unsent,
and the next is taken (R10). -/
def servePosting : List ChamberNo → State → State
  | [], s => s
  | c :: rest, s =>
    match (s.slot c).pending, s.reach c with
    | some (cmd, _), some (a, sl) => sendPending c a sl cmd s
    | _, _ => servePosting rest (dropPending c s)

/-- The first choice of R144: a read-out, else a slot command. -/
def choiceCommand (s : State) : State :=
  match s.main.line.attention.won with
  | some (cls, a) => startRead cls a s
  | none => servePosting s.main.posting s

/-- An attention query, its class mask with all four classes set (R156). -/
def startQuery (s : State) : State := startTurn .query (lineFrame 0 codeQuery [0x0F]) s

/-- The second choice of R144. -/
def choiceQuery (s : State) : State := if s.main.line.lastQuery ∨ s.censusRunning then s else startQuery s

/-- A binding STATUS is started (R153). -/
def startBinding (a : AddrNo) (s : State) : State :=
  startTurn (.bindStatus a) (lineFrame (addrByte a) codeStatus [])
    (s.setEntry a ((s.entry a).map fun e => { e with binding := .onLine }))

/-- A PENDING census starts with CENSUS_OPEN (R146, R147). -/
def startCensus (s : State) : State :=
  startTurn .censusOpen (lineFrame 0 codeCensusOpen (split16 s.heldMap))
    (s.onCensus fun k => { k with state := .running, bound := false, next := .contend })

/-- The next step of a RUNNING census (R145, R148 to R150). -/
def startStep (s : State) : State :=
  let k := s.main.line.census
  match k.next with
  | .contend => startTurn .contend (lineFrame 0 codeContend []) s
  | .assign => startTurn (.assign k.given) (lineFrame 0 codeAssign (split48 k.serialRead ++ [addrByte k.given])) s
  | .status => startTurn (.status k.given) (lineFrame (addrByte k.given) codeStatus []) s

/-- The third choice of R144. -/
def choiceCensus (s : State) : State :=
  match pickFree s.bindingsPending s with
  | (some a, s) => startBinding a s
  | (none, s) =>
    match s.main.line.census.state with
    | .idle => s
    | .pending => startCensus s
    | .running => startStep s

/-- The fourth choice of R144: the scheduler names a chamber or declines (R44). -/
def choiceMeasure (s : State) : State :=
  if s.censusRunning then s
  else match s.chosen with
    | none => s
    | some c =>
      match (s.chamber c).config, s.reach c with
      | some cfg, some (a, sl) =>
        startTurn (.measure cfg.station a) (lineFrame (addrByte a) codeMeasure (nat8 sl.val)) (issueMeasure c cfg s)
      | _, _ => s

/-- The fifth choice of R144. -/
def choiceLast (s : State) : State := if s.censusRunning then s else startQuery s

/-- Goes on to the next choice where no turn has been started. -/
def orElseTurn (f : State → State) (s : State) : State := if s.main.line.turn.isSome then s else f s

/-- The arbiter's choices in order (R144). -/
def choose (s : State) : State :=
  orElseTurn choiceLast (orElseTurn choiceMeasure (orElseTurn choiceCensus (orElseTurn choiceQuery (choiceCommand s))))

/-- Starts the next turn where the line is free (R135, R144): DROP_ADDRESS first when it is due (R154), the DORMANT
broadcast when all six conditions hold in PREPARING (R166), no turn in DORMANT or WAKING. -/
def arbitrate (s : State) : State :=
  if s.main.line.turn.isSome then s
  else match s.main.line.power.state with
    | .dormant | .waking => s
    | p =>
      if s.main.line.dropDue then
        startTurn .dropAddress (lineFrame 0 codeDropAddress []) (s.onLine fun l => { l with dropDue := false })
      else if p = .preparing ∧ s.settledForDormancy then startTurn .dormantCast (lineFrame 0 codeDormant []) s
      else choose s

end Sys2Proof.Machine
end

