-- ==== Sys2Proof/Machine/Reports.lean ====
section
/-! DEFINITION. Payload layouts toward the host (section 10.5): the records that replies and notices carry, and the
seven notices (R182). Fields whose presence flag is clear are sent as 0. -/

namespace Sys2Proof.Machine

/-! ## Codes -/

def SessionKind.isGuest (k : SessionKind) : Bool := k = .guest

def CardState.code : CardState → Nat
  | .active => 0
  | .suspended => 1
  | .lost => 2

def AccountState.code : AccountState → Nat
  | .unused => 0
  | .opened => 1
  | .closed => 2

def Access.code : Access → Nat
  | .unconfigured => 0
  | .offline => 1
  | .opened => 2
  | .full => 3
  | .locking => 4
  | .locked => 5
  | .lifted => 6
  | .blocked => 7

def Command.report : Command → List Byte
  | .unlock w => nat8 1 ++ nat8 w
  | .deny code => nat8 2 ++ nat8 code.number
  | .lock => nat8 3 ++ nat8 0
  | .release => nat8 4 ++ nat8 0

def ReadingOutcome.code : ReadingOutcome → Nat
  | .accepted => 0
  | .reAnchored => 1
  | .divergent => 2
  | .lowQuality => 3

def Health.code : Health → Nat
  | .good => 0
  | .doubtful => 1
  | .silent => 2

def NodeState.code : NodeState → Nat
  | .notBound => 0
  | .offline => 1
  | .online => 2

def PowerState.code : PowerState → Nat
  | .active => 0
  | .preparing => 1
  | .dormant => 2
  | .waking => 3

def PowerCause.code : PowerCause → Nat
  | .start => 0
  | .hostDormant => 1
  | .quiet => 2
  | .grant => 3
  | .visit => 4
  | .hostWake => 5
  | .sweepDone => 6
  | .wakePulse => 7
  | .limit => 8
  | .hostSweep => 9
  | .hostCensus => 10
  | .reset => 11

def CensusState.code : CensusState → Nat
  | .idle => 0
  | .pending => 1
  | .running => 2

def StartKind.code : StartKind → Nat
  | .cold => 0
  | .warmPower => 1
  | .warmRestart => 2

def Phase.code : Phase → Nat
  | .draining => 0
  | .locking => 1
  | .locked => 2
  | .lifted => 3
  | .emptied => 4
  | .blocked => 5
  | .left => 6

def VisitOutcome.code : VisitOutcome → Nat
  | .complete => 0
  | .closed => 1
  | .expired => 2

def VisitMode.code : VisitMode → Nat
  | .listed => 0
  | .all => 1

def JournalOutcome.bits : JournalOutcome → Bool × Bool
  | .deposit => (false, false)
  | .abandoned => (true, false)
  | .unconfirmed => (false, true)

def AlarmType.code : AlarmType → Nat
  | .lostCardSeen => 1
  | .lockFailed => 2
  | .releaseFailed => 3
  | .notReturned => 4
  | .unscheduledLift => 5
  | .tamper => 6
  | .lineFull => 7

/-! ## Records -/

/-- A present value's bytes, or that many zero bytes. -/
def optBytes {α : Type} (n : Nat) (f : α → List Byte) (o : Option α) : List Byte :=
  match o with
  | some x => f x
  | none => List.replicate n 0

/-- A fraction set in one byte. -/
def setByte (f : FractionSet) : List Byte := [f.setWidth 8]

/-- A station or an address in one byte, 0 where absent. -/
def numberByte (o : Option (Fin 16)) : List Byte := optBytes 1 (fun a => nat8 (a.val + 1)) o

/-- The card record, 17 bytes. -/
def cardBytes (k : Card) : List Byte :=
  split40 k.number ++ nat16 k.account.val ++ setByte k.rights ++ nat8 k.state.code ++
    [bitsByte [k.scope.isSome, k.lastUse.isSome]] ++ optBytes 2 split16 k.scope ++
    numberByte (k.lastUse.map (·.station)) ++ optBytes 4 (fun u => split32 u.time) k.lastUse

/-- An allowance in two bytes, 0xFFFF for UNLIMITED. -/
def allowanceBytes : Allowance → List Byte
  | .limited n => nat16 n
  | .unlimited => [0xFF, 0xFF]

/-- The account record, 8 bytes. -/
def accountBytes (a : Account) : List Byte :=
  nat8 a.state.code ++ [a.group] ++ allowanceBytes a.allowance ++ nat8 a.overdraft ++ nat16 a.used ++ nat8 a.held

/-- The class template, 17 bytes; the fields of the other kind are 0. -/
def templateBytes (t : Template) : List Byte :=
  [flagByte t.enabled] ++ split40 t.value ++ split40 t.mask ++
    match t.kind with
    | .guest rights account =>
      nat8 0 ++ setByte rights ++ [flagByte account.isSome] ++ optBytes 2 (fun a => nat16 a.val) account ++ nat8 0
    | .crew mode => nat8 1 ++ nat8 0 ++ nat8 0 ++ nat16 0 ++ nat8 mode.code

/-- The journal record, 18 bytes. -/
def journalBytes (r : JournalRecord) : List Byte :=
  split32 r.sequence ++ split32 r.closeTime ++
    [bitsByte [r.timeValid, r.charged, r.account.isSome, r.kind.isGuest, r.outcome.bits.1, r.outcome.bits.2]] ++
    split40 r.card ++ optBytes 2 (fun a => nat16 a.val) r.account ++ nat8 r.chamber.val ++ nat8 r.fraction.code

/-- An entry's flags: bit 0 URGENT, bit 1 forced, bit 2 IN_VISIT. -/
def entryFlags (e : Entry) : Byte := bitsByte [e.urgency = .urgent, e.forced, e.state ≠ .waiting]

/-- The station of an entry's visit, absent while WAITING. -/
def Entry.visitStation (e : Entry) : Option StationNo :=
  match e.state with
  | .waiting => none
  | .inVisit st => some st

/-- The round entry, 11 bytes. -/
def entryBytes (e : Entry) : List Byte :=
  nat8 e.chamber.val ++ nat8 e.fraction.code ++ nat16 e.fill ++ split32 e.entered ++ [entryFlags e] ++
    numberByte e.visitStation ++ nat8 e.skips

/-- The station record of STATION GET, 12 bytes. -/
def stationBytes (st : StationNo) (x : Station) : List Byte :=
  nat8 (st.val + 1) ++ [bitsByte [x.serial.isSome, x.address.isSome]] ++ optBytes 6 split48 x.serial ++
    numberByte x.address ++ nat8 x.node.code ++ nat8 x.missRun ++ nat8 x.slotCount

/-- The nine points of a profile, 18 bytes. -/
def profileBytes (p : Vector Nat 9) : List Byte := p.toArray.toList.flatMap nat16

/-- The configuration in the chamber report, 23 bytes. -/
def configBytes (g : ChamberConfig) : List Byte :=
  nat8 (g.station.val + 1) ++ nat8 g.slot.val ++ nat8 g.fraction.code ++ nat8 g.profile.val ++ nat16 g.capacity ++
    nat8 g.drum ++ nat16 g.depth ++ nat16 g.clearance ++ nat16 g.usable ++ nat16 g.request ++ nat16 g.full ++
    nat16 g.tdown ++ nat8 g.minQuality ++ nat8 g.window ++ nat16 g.interval

/-- The last reading in the chamber report, 17 bytes. -/
def readingBytes (r : Reading) : List Byte :=
  split32 r.time ++ nat16 r.echoTime ++ nat8 r.quality ++ [BitVec.ofInt 8 r.temperature] ++ nat16 r.distance ++
    nat16 r.height ++ nat16 r.measured ++ nat16 r.predicted ++ nat8 r.outcome.code

/-- The last-attempt time as it is reported: the clock less the seconds since the attempt (R188). -/
def State.attemptTime (s : State) (t : Seconds) : Seconds := s.now - (s.elapsed - t)

/-- The chamber report, 76 bytes (R6). The two bits of byte 54 stand as in the flags of a round entry (DEDUCED, assumption
log entry 30). -/
def chamberReport (s : State) (c : ChamberNo) : List Byte :=
  let ch := s.chamber c
  let e := ch.estimate
  let sl := s.slot c
  let ret := look s.main.returns c
  let entry := s.roundEntry c
  nat8 c.val ++
    [bitsByte [ch.due],
     bitsByte [ch.config.isSome, ch.liftMark.isSome, ret.isSome, s.candidate c, entry.isSome,
       entry.any (fun x => x.state ≠ .waiting), e.last.isSome, ch.lastAttempt.isSome]] ++
    optBytes 23 configBytes ch.config ++
    nat8 ch.access.code ++
    nat16 e.anchor ++ nat16 e.count ++ nat8 e.step ++ nat16 e.fill ++
    nat8 e.health.code ++ nat8 e.divRun ++ nat8 e.missRun ++ nat8 e.reanchors ++
    optBytes 6 (fun (m : LiftMark) => nat16 m.fill ++ split32 m.time) ch.liftMark ++
    optBytes 2 (fun d => nat16 (secondsLeft d s.elapsed)) ret ++
    optBytes 6 (fun (p : Command × Seconds) => p.1.report ++ split32 p.2) sl.pending ++
    optBytes 2 Command.report sl.sending ++
    optBytes 1 (fun (x : Entry) => [bitsByte [x.urgency = .urgent, x.forced]]) entry ++
    optBytes 4 (fun t => split32 (s.attemptTime t)) ch.lastAttempt ++
    optBytes 17 readingBytes e.last

/-- The settings as SITE SET's reply carries them: bytes 1..16 of the layout, and the unset flag (section 10.5). -/
def settingsBytes (s : State) : List Byte :=
  let g := s.ret.settings
  setByte g.charged ++ nat8 g.responseWindow ++ nat16 g.censusPeriod ++ nat16 g.quietPeriod ++ nat16 g.dormantLimit ++
    nat16 g.visitWindow ++ nat16 g.returnLimit ++ split32 s.now ++ [flagByte s.ret.clock.unset]

/-- The site status, 37 bytes (R179). -/
def siteStatusBytes (s : State) : List Byte :=
  let boundEntries := countWhere (fun (o : Option LineEntry) => o.any LineEntry.countsBound) s.main.line.table
  split32 s.now ++ [flagByte s.ret.clock.unset] ++ nat8 s.ret.lastStart.kind.code ++ split32 s.ret.lastStart.time ++
    nat16 s.ret.cards.length ++ nat8 s.openSessions ++ nat16 s.ret.journal.length ++ split32 s.headSeq ++
    split32 s.ret.nextSeq ++ nat16 (Config.journalRoom - s.roomTaken) ++ nat8 s.ret.round.length ++
    nat8 s.candidateCount ++ nat8 (countWhere Option.isSome s.ret.visits) ++ nat8 s.main.line.power.state.code ++
    nat8 s.main.line.power.cause.code ++ nat8 s.main.line.census.state.code ++ nat8 boundEntries ++
    nat8 (countWhere Option.isSome s.main.line.table - boundEntries) ++ nat8 s.main.sched.pointer.val ++
    nat8 s.owedCount ++ nat16 s.main.host.outbox.length

/-! ## Notices (R181, R182) -/

/-- The CHAMBER notice's candidate set: bit c for chamber c, in 8 bytes. -/
def candidateBits (s : State) : BitVec 64 :=
  (indexes 64).foldl (fun m c => if s.candidate c then m ||| (1 <<< c.val) else m) 0

def split64 (x : BitVec 64) : List Byte := split32 (x.extractLsb' 32 32) ++ split32 (x.extractLsb' 0 32)

def roundNotice (s : State) : List Byte :=
  nat8 s.ret.round.length ++ nat8 s.candidateCount ++ split64 (candidateBits s) ++
    s.ret.round.flatMap fun e => nat8 e.chamber.val ++ [entryFlags e]

/-- The VISIT notice (R133). -/
def visitNotice (s : State) (st : StationNo) : List Byte :=
  match (s.visitAt st).bind (look s.ret.visits) with
  | some v =>
    nat8 (st.val + 1) ++ nat8 1 ++ split40 v.crew ++ nat8 v.mode.code ++ split32 v.opened ++
      optBytes 2 (fun d => nat16 (secondsLeft d s.elapsed)) v.deadline ++ nat8 v.involved.length ++
      v.involved.flatMap fun i => nat8 i.chamber.val ++ nat8 i.phase.code ++ nat8 (s.access i.chamber).code
  | none =>
    match look s.ret.summaries st with
    | some m =>
      nat8 (st.val + 1) ++ nat8 2 ++ split40 m.crew ++ split32 m.opened ++ split32 m.closed ++ nat8 m.outcome.code ++
        nat8 m.emptied ++ nat8 m.blocked ++ nat8 m.left ++ nat8 m.unfinished
    | none => nat8 (st.val + 1) ++ nat8 0

/-- The miss run of an entry's node: the station's for a bound one, the entry's own otherwise (R140). -/
def State.nodeMissRun (s : State) (e : LineEntry) : Nat :=
  match e.countsBound, e.station with
  | true, some st => (s.station st).missRun
  | _, _ => e.missRun

def nodeNotice (s : State) (a : AddrNo) (detail : Serial) : List Byte :=
  let o := s.entry a
  nat8 (a.val + 1) ++ [bitsByte [o.isSome, (o.bind (·.station)).isSome]] ++
    optBytes 6 (fun (e : LineEntry) => split48 e.serial) o ++ numberByte (o.bind (·.station)) ++
    optBytes 1 (fun (e : LineEntry) => nat8 (s.nodeMissRun e)) o ++ split48 detail

/-- The JOURNAL notice (R108). -/
def journalNotice (s : State) : List Byte :=
  nat16 s.ret.journal.length ++ nat8 s.openSessions ++ nat16 (Config.journalRoom - s.roomTaken) ++
    split32 s.headSeq ++ split32 s.ret.nextSeq ++ [bitsByte [s.highWater, s.journalFull]]

/-- The LINE notice (R171). -/
def lineNotice (s : State) : List Byte :=
  let w := s.main.line.power
  nat8 w.state.code ++ nat8 w.cause.code ++ split32 w.changed ++ [bitsByte [w.quiet.isSome, w.dormant.isSome]] ++
    optBytes 2 (fun d => nat16 (secondsLeft d s.elapsed)) w.quiet ++
    optBytes 2 (fun d => nat16 (secondsLeft d s.elapsed)) w.dormant ++ nat8 s.main.line.census.state.code ++
    nat8 (countWhere Option.isSome s.main.line.table) ++ nat8 s.owedCount

def alarmNotice (t : AlarmType) (c : ChamberNo) (k : OutboxKey) : List Byte :=
  nat8 t.code ++ nat8 c.val ++ nat8 k.count ++ split32 k.time ++ (if t = .lostCardSeen then split40 k.card else split40 0)

/-- The frame of a key's notice, built from the state as its sending begins (R181): its kind (section 10.3), TAG 0. -/
def noticeFrame (s : State) (k : OutboxKey) : List Byte :=
  match k.key with
  | .chamber c => hostFrame 0x60 0 (chamberReport s c)
  | .round => hostFrame 0x61 0 (roundNotice s)
  | .visit st => hostFrame 0x62 0 (visitNotice s st)
  | .node a => hostFrame 0x63 0 (nodeNotice s a k.serial)
  | .journal => hostFrame 0x64 0 (journalNotice s)
  | .line => hostFrame 0x65 0 (lineNotice s)
  | .alarm t c => hostFrame 0x66 0 (alarmNotice t c k)

end Sys2Proof.Machine
end

