-- ==== Sys2Proof/Machine/Replies.lean ====
section
/-! DEFINITION. Replies (R176), codes read from requests (section 10.5), and clamping (R177). -/

namespace Sys2Proof.Machine

/-- The result codes (R176). -/
inductive Result where
  | ok
  | okClamped
  | unknownKind
  | badLength
  | badValue
  | notFound
  | tableFull
  | listFull
  | busy
  | refused
  deriving DecidableEq, Repr

def Result.code : Result → Byte
  | .ok => 0
  | .okClamped => 1
  | .unknownKind => 2
  | .badLength => 3
  | .badValue => 4
  | .notFound => 5
  | .tableFull => 6
  | .listFull => 7
  | .busy => 8
  | .refused => 9

/-- A reply's payload: its result code and the content after it (R176). -/
structure Reply where
  result  : Result
  content : List Byte
  deriving DecidableEq, Repr

/-- A reply that carries its code alone (R176). -/
def bare (r : Result) : Reply := { result := r, content := [] }

/-- OK_CLAMPED where a value was clamped, OK otherwise (R176). -/
def okIf (clamped : Bool) : Result := if clamped then .okClamped else .ok

/-- A value clamped into lo..hi. -/
def clampTo (lo hi n : Nat) : Nat := max lo (min hi n)

/-! ## References (R177, step 1) -/

/-- A chamber number 0..63. -/
def chamberOf (b : Byte) : Option ChamberNo := if h : b.toNat < 64 then some ⟨b.toNat, h⟩ else none

/-- A station number 1..16. -/
def stationNoOf (b : Byte) : Option StationNo :=
  if h : 1 ≤ b.toNat ∧ b.toNat ≤ 16 then some ⟨b.toNat - 1, by omega⟩ else none

/-- An account index 0..2047. -/
def accountOf (b : BitVec 16) : Option AccountNo := if h : b.toNat < 2048 then some ⟨b.toNat, h⟩ else none

/-- A profile or template slot number 0..7. -/
def eightOf (b : Byte) : Option (Fin 8) := if h : b.toNat < 8 then some ⟨b.toNat, h⟩ else none

/-- A fraction code. -/
def fractionOf (b : Byte) : Option Fraction :=
  match b.toNat with
  | 0 => some .residual
  | 1 => some .paper
  | 2 => some .glass
  | 3 => some .packaging
  | 4 => some .organic
  | _ => none

/-- A fraction set: bits 5..7 must be 0 (section 10.5). -/
def fractionSetOf (b : Byte) : Option FractionSet := if b.toNat < 32 then some (b.setWidth 5) else none

/-- A card state code. -/
def cardStateOf (b : Byte) : Option CardState :=
  match b.toNat with
  | 0 => some .active
  | 1 => some .suspended
  | 2 => some .lost
  | _ => none

/-- An account state code. -/
def accountStateOf (b : Byte) : Option AccountState :=
  match b.toNat with
  | 0 => some .unused
  | 1 => some .opened
  | 2 => some .closed
  | _ => none

/-- A visit mode code. -/
def visitModeOf (b : Byte) : Option VisitMode :=
  match b.toNat with
  | 0 => some .listed
  | 1 => some .all
  | _ => none

/-- An urgency code. -/
def urgencyOf (b : Byte) : Option Urgency :=
  match b.toNat with
  | 0 => some .normal
  | 1 => some .urgent
  | _ => none

end Sys2Proof.Machine
end

