-- ==== Sys2Proof/Machine/CardStore.lean ====
section
/-! DEFINITION. The card store's requests (Chapter 4): cards (R64 to R68), accounts (R69 to R72) and class templates
(R73, R74). Each answers the state after the request and its reply. -/

namespace Sys2Proof.Machine

/-! ## Cards -/

/-- A record inserted at its place in card-number order, replacing a record of the same number (R56, R64). -/
def insertCard (k : Card) : List Card → List Card
  | [] => [k]
  | x :: rest =>
    if k.number < x.number then k :: x :: rest
    else if k.number = x.number then k :: rest
    else x :: insertCard k rest

/-- CARD PUT (R64). -/
def takeCardPut (f : CardFields) (s : State) : State × Reply :=
  match accountOf f.account, fractionSetOf f.rights, cardStateOf f.state with
  | some account, some rights, some state =>
    if f.card = 0 then (s, bare .badValue)
    else
      let old := s.findCard f.card
      if old.isNone ∧ s.ret.cards.length ≥ Config.cardRoom then (s, bare .tableFull)
      else
        let k : Card :=
          { number := f.card, account := account, rights := rights, state := state, scope := f.scope,
            lastUse := old.bind (·.lastUse) }
        (s.onRet fun r => { r with cards := insertCard k r.cards }, bare .ok)
  | _, _, _ => (s, bare .badValue)

/-- A masked reference of CARD AMEND or of an account write: the old value where its mask bit is clear, the new one
where it is set and can be stored. -/
def masked {α : Type} (bit : Bool) (old : α) (new : Option α) : Option α := if bit then new else some old

/-- CARD AMEND (R65). The checks of masked values come before the presence of the card, and values of fields outside
the mask are not checked. -/
def takeCardAmend (mask : Byte) (f : CardFields) (s : State) : State × Reply :=
  let storable : Bool :=
    (!mask.getLsbD 0 || (accountOf f.account).isSome) && (!mask.getLsbD 1 || (fractionSetOf f.rights).isSome) &&
      (!mask.getLsbD 2 || (cardStateOf f.state).isSome)
  if f.card = 0 ∨ storable = false then (s, bare .badValue)
  else match s.findCard f.card with
    | none => (s, bare .notFound)
    | some old =>
      match masked (mask.getLsbD 0) old.account (accountOf f.account),
        masked (mask.getLsbD 1) old.rights (fractionSetOf f.rights),
        masked (mask.getLsbD 2) old.state (cardStateOf f.state) with
      | some account, some rights, some state =>
        let k : Card :=
          { old with account := account, rights := rights, state := state,
                     scope := if mask.getLsbD 3 then f.scope else old.scope }
        (s.onRet fun r => { r with cards := insertCard k r.cards }, bare .ok)
      | _, _, _ => (s, bare .badValue)

/-- CARD GET (R67). -/
def takeCardGet (n : CardNo) (s : State) : State × Reply :=
  if n = 0 then (s, bare .badValue)
  else match s.findCard n with
    | some k => (s, { result := .ok, content := cardBytes k })
    | none => (s, { result := .notFound, content := match s.firstTemplate n with
        | some i => nat8 i.val
        | none => [0xFF] })

/-- CARD REMOVE (R66). -/
def takeCardRemove (n : CardNo) (s : State) : State × Reply :=
  if n = 0 then (s, bare .badValue)
  else if (s.findCard n).isNone then (s, bare .notFound)
  else (s.onRet fun r => { r with cards := r.cards.filter (·.number ≠ n) }, bare .ok)

/-- CARD SCAN (R68). -/
def takeCardScan (start : BitVec 16) (count : Byte) (s : State) : State × Reply :=
  let n := clampTo 1 8 count.toNat
  let found := (s.ret.cards.drop start.toNat).take n
  (s, { result := okIf (n ≠ count.toNat),
        content := nat16 s.ret.cards.length ++ nat8 found.length ++ found.flatMap cardBytes })

/-! ## Accounts -/

/-- An allowance as carried: 0xFFFF is UNLIMITED, and 10000..65534 is clamped to 9999 (R69, section 10.5). -/
def allowanceOf (b : BitVec 16) : Allowance := if b = 0xFFFF then .unlimited else .limited (min 9999 b.toNat)

/-- The allowance carried is clamped. -/
def allowanceClamps (b : BitVec 16) : Bool := b ≠ 0xFFFF && b.toNat > 9999

/-- ACCOUNT PUT (R69). -/
def takeAccountPut (index : BitVec 16) (f : AccountFields) (s : State) : State × Reply :=
  match accountOf index, accountStateOf f.state with
  | some a, some state =>
    (s.onAccount a fun k =>
        { k with state := state, group := f.group, allowance := allowanceOf f.allowance,
                 overdraft := min 15 f.overdraft.toNat, used := f.used.toNat },
      bare (okIf (allowanceClamps f.allowance || f.overdraft.toNat > 15)))
  | _, _ => (s, bare .badValue)

/-- ACCOUNT AMEND (R70). -/
def takeAccountAmend (index : BitVec 16) (mask : Byte) (f : AccountFields) (s : State) : State × Reply :=
  match accountOf index with
  | none => (s, bare .badValue)
  | some a =>
    match masked (mask.getLsbD 0) (look s.ret.accounts a).state (accountStateOf f.state) with
    | none => (s, bare .badValue)
    | some state =>
      (s.onAccount a fun k =>
          { k with
            state := state
            group := if mask.getLsbD 1 then f.group else k.group
            allowance := if mask.getLsbD 2 then allowanceOf f.allowance else k.allowance
            overdraft := if mask.getLsbD 3 then min 15 f.overdraft.toNat else k.overdraft
            used := if mask.getLsbD 4 then f.used.toNat else k.used },
        bare (okIf ((mask.getLsbD 2 && allowanceClamps f.allowance) || (mask.getLsbD 3 && f.overdraft.toNat > 15))))

/-- ACCOUNT GET (R71). -/
def takeAccountGet (index : BitVec 16) (s : State) : State × Reply :=
  match accountOf index with
  | none => (s, bare .badValue)
  | some a => (s, { result := .ok, content := accountBytes (look s.ret.accounts a) })

/-- An account matches a group value and mask (R72). -/
def inGroup (value mask : Byte) (a : Account) : Bool := (a.group ^^^ value) &&& mask = 0

/-- The change of GROUP WRITE on one matching account (R72). -/
def groupChange (f : GroupFields) (k : Account) : Account :=
  { k with
    state := if f.fieldMask.getLsbD 0 then (accountStateOf f.state).getD k.state else k.state
    allowance := if f.fieldMask.getLsbD 1 then allowanceOf f.allowance else k.allowance
    overdraft := if f.fieldMask.getLsbD 2 then min 15 f.overdraft.toNat else k.overdraft
    used := if f.fieldMask.getLsbD 3 then f.used.toNat else k.used }

/-- GROUP WRITE (R72). -/
def takeGroupWrite (f : GroupFields) (s : State) : State × Reply :=
  if f.fieldMask.getLsbD 0 ∧ (accountStateOf f.state).isNone then (s, bare .badValue)
  else
    let n := countWhere (inGroup f.value f.groupMask) s.ret.accounts
    let clamped := (f.fieldMask.getLsbD 1 && allowanceClamps f.allowance) ||
      (f.fieldMask.getLsbD 2 && f.overdraft.toNat > 15)
    let change (k : Account) : Account := if inGroup f.value f.groupMask k then groupChange f k else k
    (s.onRet fun r => { r with accounts := mapAll change r.accounts },
      { result := okIf clamped, content := nat16 n })

/-! ## Class templates -/

/-- The fields of the kind that a CLASS PUT names, where they can be stored (R73). -/
def templateKindOf (f : ClassFields) : Option TemplateKind :=
  match f.kind.toNat with
  | 0 =>
    (fractionSetOf f.rights).bind fun rights =>
      match f.account with
      | none => some (.guest rights none)
      | some a => (accountOf a).map fun a => .guest rights (some a)
  | 1 => (visitModeOf f.mode).map .crew
  | _ => none

/-- CLASS PUT (R73): the value is stored with the bits outside the mask cleared (R61). -/
def takeClassPut (slot : Byte) (f : ClassFields) (s : State) : State × Reply :=
  match eightOf slot, templateKindOf f with
  | some i, some kind =>
    let x : Template := { enabled := f.enabled, value := f.value &&& f.mask, mask := f.mask, kind := kind }
    (s.onRet fun r => { r with templates := put r.templates i x }, bare .ok)
  | _, _ => (s, bare .badValue)

/-- CLASS GET (R74). -/
def takeClassGet (slot : Byte) (s : State) : State × Reply :=
  match eightOf slot with
  | none => (s, bare .badValue)
  | some i => (s, { result := .ok, content := templateBytes (look s.ret.templates i) })

end Sys2Proof.Machine
end

