-- ==== Sys2Proof/Machine/ChamberTable.lean ====
section
/-! DEFINITION. The chamber table's requests (Chapter 1): chambers (R2 to R6), profiles (R16) and stations (R14, R15,
R153). -/

namespace Sys2Proof.Machine

/-! ## Chambers -/

/-- The key fields of a CHAMBER SET that can be stored (R2): station, slot, fraction and profile. -/
structure ChamberKeys where
  station  : StationNo
  slot     : SlotNo
  fraction : Fraction
  profile  : Fin 8
  deriving DecidableEq, Repr

def chamberKeys (f : ChamberFields) : Option ChamberKeys :=
  match stationNoOf f.station, slotOf f.slot, fractionOf f.fraction, eightOf f.profile with
  | some st, some sl, some fr, some p => some { station := st, slot := sl, fraction := fr, profile := p }
  | _, _, _, _ => none

/-- The clamped configuration (R3), in the order of its table. -/
def clampConfig (k : ChamberKeys) (f : ChamberFields) : ChamberConfig :=
  let clearance := clampTo 0 600 f.clearance.toNat
  let depth := max (clampTo 800 4000 f.depth.toNat) (clearance + 500)
  let request := clampTo 300 950 f.request.toNat
  { station := k.station, slot := k.slot, fraction := k.fraction, profile := k.profile,
    capacity := clampTo 500 8000 f.capacity.toNat
    drum := clampTo 10 120 f.drum.toNat
    depth := depth
    clearance := clearance
    usable := depth - clearance
    request := request
    full := clampTo (request + 50) 1000 f.full.toNat
    tdown := clampTo 0 300 f.tdown.toNat
    minQuality := clampTo 0 15 f.minQuality.toNat
    window := clampTo 10 120 f.window.toNat
    interval := clampTo 60 3600 f.interval.toNat }

/-- A field of the configuration differs from the one carried (R3). -/
def configClamped (g : ChamberConfig) (f : ChamberFields) : Bool :=
  g.capacity ≠ f.capacity.toNat || g.drum ≠ f.drum.toNat || g.depth ≠ f.depth.toNat ||
    g.clearance ≠ f.clearance.toNat || g.request ≠ f.request.toNat || g.full ≠ f.full.toNat ||
    g.tdown ≠ f.tdown.toNat || g.minQuality ≠ f.minQuality.toNat || g.window ≠ f.window.toNat ||
    g.interval ≠ f.interval.toNat

/-- CHAMBER SET and CHAMBER CLEAR are refused BUSY: a session is open, or the chamber is LOCKING, LOCKED or LIFTED
(R4). -/
def State.chamberBusy (s : State) (c : ChamberNo) : Bool :=
  (s.session c).isSome ||
    (match s.access c with
     | .locking | .locked | .lifted => true
     | _ => false)

/-- Step 1 of R4: the configuration is replaced; where the station or slot changed, the site map's places are
rewritten, the slot is cleared, and a measurement in flight is disturbed (R47). -/
def placeConfig (c : ChamberNo) (g : ChamberConfig) (s : State) : State :=
  let old := (s.chamber c).config
  let s := s.onChamber c fun ch => { ch with config := some g }
  match old with
  | none => s.setMapped g.station g.slot (some c)
  | some o =>
    if o.station = g.station ∧ o.slot = g.slot then s
    else disturb c (clearSlot c ((s.setMapped o.station o.slot none).setMapped g.station g.slot (some c)))

/-- Step 3 of R4: an OPEN or FULL chamber becomes OFFLINE where its new pair cannot be served; any other chamber is
returned to service (R7). -/
def settleAccess (c : ChamberNo) (g : ChamberConfig) (s : State) : State :=
  if inService (s.access c) then if s.served g then s else setAccess c .offline s
  else returnToService c s

/-- The effects of a CHAMBER SET that is taken (R4, steps 1 to 7), and the arbiter where its clearing freed the
line. Where step 2 changes the health (R38), R31 posts (CHAMBER, c) without a place among the steps, and R4 names the key in
step 7: here it joins the outbox in step 7, or with a change of access state before it (R8), and never in step 2 (DESIGN
CHOICE, assumption log entry 41). -/
def configure (c : ChamberNo) (g : ChamberConfig) (s : State) : State :=
  let s := placeConfig c g s
  let s := s.onEstimate c (Estimate.reconfigured g.capacity g.drum)
  let s := settleAccess c g s
  let s := rewriteEntry c (fun e => { e with fraction := g.fraction }) s
  let s := s.onChamber c fun ch => { ch with due := true }
  arbitrate (post (.chamber c) (evaluate c s))

/-- CHAMBER SET (R2 to R4). -/
def takeChamberSet (chamber : Byte) (f : ChamberFields) (s : State) : State × Reply :=
  match chamberOf chamber, chamberKeys f with
  | some c, some k =>
    if (s.mapped k.station k.slot).any (fun o => o ≠ c) then (s, bare .badValue)
    else if s.chamberBusy c then (s, bare .busy)
    else
      let g := clampConfig k f
      (configure c g s, bare (okIf (configClamped g f)))
  | _, _ => (s, bare .badValue)

/-- CHAMBER GET (R6). -/
def takeChamberGet (chamber : Byte) (s : State) : State × Reply :=
  match chamberOf chamber with
  | none => (s, bare .badValue)
  | some c => (s, { result := .ok, content := chamberReport s c })

/-- The effects of a CHAMBER CLEAR that is taken on a configured chamber (R5, R19, R41, R47, R52). -/
def unconfigure (c : ChamberNo) (g : ChamberConfig) (s : State) : State :=
  let s := (s.setMapped g.station g.slot none).onChamber c fun ch => { ch with config := none }
  let s := setAccess c .unconfigured s
  let s := s.onChamber c fun ch =>
    { ch with estimate := ch.estimate.cleared, liftMark := none, lastAttempt := none, due := false }
  let s := dropOwed c (clearSlot c (s.setReturn c none))
  let s := removeEntry c (setCandidate c false s)
  arbitrate (post (.chamber c) s)

/-- CHAMBER CLEAR (R5). -/
def takeChamberClear (chamber : Byte) (s : State) : State × Reply :=
  match chamberOf chamber with
  | none => (s, bare .badValue)
  | some c =>
    if s.chamberBusy c then (s, bare .busy)
    else match (s.chamber c).config with
      | none => (s, bare .ok)
      | some g => (unconfigure c g s, bare .ok)

/-! ## Shape profiles (R16) -/

/-- The nine points carried. -/
def pointsOf (f : ProfileFields) : Vector Nat 9 :=
  #v[f.p0.toNat, f.p1.toNat, f.p2.toNat, f.p3.toNat, f.p4.toNat, f.p5.toNat, f.p6.toNat, f.p7.toNat, f.p8.toNat]

/-- The points pass: P0 is 0, P8 is 1000, and each point is at least the one before it. -/
def shapePasses (f : ProfileFields) : Bool :=
  f.p0 = 0 && f.p8 = 1000 && f.p0 ≤ f.p1 && f.p1 ≤ f.p2 && f.p2 ≤ f.p3 && f.p3 ≤ f.p4 && f.p4 ≤ f.p5 && f.p5 ≤ f.p6 &&
    f.p6 ≤ f.p7 && f.p7 ≤ f.p8

/-- PROFILE PUT (R16). -/
def takeProfilePut (profile : Byte) (f : ProfileFields) (s : State) : State × Reply :=
  match eightOf profile with
  | none => (s, bare .badValue)
  | some p =>
    if shapePasses f = false then (s, bare .badValue)
    else if p = 0 then (s, bare .refused)
    else (s.onRet fun r => { r with profiles := put r.profiles p (pointsOf f) }, bare .ok)

/-- PROFILE GET (R16). -/
def takeProfileGet (profile : Byte) (s : State) : State × Reply :=
  match eightOf profile with
  | none => (s, bare .badValue)
  | some p => (s, { result := .ok, content := profileBytes (look s.ret.profiles p) })

/-! ## Stations (R14, R15) -/

/-- STATION GET (R14). -/
def takeStationGet (station : Byte) (s : State) : State × Reply :=
  match stationNoOf station with
  | none => (s, bare .badValue)
  | some st => (s, { result := .ok, content := stationBytes st (s.station st) })

/-- Step 1 of R15 on an ONLINE station: its node keeps its address as an unbound node, and (NODE, address) is
posted. -/
def unbindOnline (st : StationNo) (a : AddrNo) (s : State) : State :=
  let serial := ((s.entry a).map (·.serial)).getD 0
  let s := s.setEntry a ((s.entry a).map fun e => { e with station := none, binding := .none, missRun := 0 })
  let s := s.onStation st fun x => { x with address := none, node := .offline }
  postNode a serial (stationOut st s)

/-- Drops a binding STATUS that stands for the station: its entry's station is removed, and a STATUS on the line is
abandoned (R153). -/
def dropBindingOf (st : StationNo) (s : State) : State :=
  match lowest fun a => (s.entry a).any (fun e => e.station = some st && e.binding ≠ .none) with
  | none => s
  | some a =>
    abandonTurn (servesBinding a)
      (s.setEntry a ((s.entry a).map fun e => { e with station := none, binding := .none }))

/-- The census's next step is STATUS for an address (R153). -/
def State.censusAsks (s : State) (a : AddrNo) : Bool :=
  s.censusRunning && s.main.line.census.next = .status && s.main.line.census.given = a

/-- Step 3 of R15: the entry of an unbound node with the serial takes the station, and a binding STATUS is made
pending, but for the address the census is about to ask (R153). -/
def bindAddressed (st : StationNo) (serial : Serial) (s : State) : State :=
  match s.addressOf serial with
  | none => s
  | some a =>
    if s.censusAsks a then s
    else s.setEntry a ((s.entry a).map fun e => { e with station := some st, binding := .pending })

/-- The effects of a STATION BIND that changes the station's serial (R15). -/
def rebind (st : StationNo) (serial : Option Serial) (s : State) : State :=
  let s := match (s.station st).node, (s.station st).address with
    | .online, some a => unbindOnline st a s
    | _, _ => s
  let s := dropBindingOf st s
  let s := s.onStation st fun x =>
    { x with serial := serial, missRun := 0, node := if serial.isSome then .offline else .notBound, address := none }
  let s := match serial with
    | some n => bindAddressed st n s
    | none => s
  arbitrate s

/-- STATION BIND (R15). -/
def takeStationBind (station : Byte) (serial : Option Serial) (s : State) : State × Reply :=
  match stationNoOf station with
  | none => (s, bare .badValue)
  | some st =>
    if serial = some 0 then (s, bare .badValue)
    else if serial.isSome ∧ (indexes 16).any (fun o => o ≠ st && (s.station o).serial = serial) then (s, bare .badValue)
    else if (s.station st).serial = serial then (s, bare .ok)
    else (rebind st serial s, bare .ok)

end Sys2Proof.Machine
end

