-- ==== Sys2Proof/Machine/ListRequests.lean ====
section
/-! DEFINITION. The requests on the two lists the host works through: the round list (R116 to R118) and the deposit
journal (R103, R104, R106, R107). -/

namespace Sys2Proof.Machine

/-! ## Round list -/

/-- ROUND READ (R116). -/
def takeRoundRead (start count : Byte) (s : State) : State × Reply :=
  let n := clampTo 1 16 count.toNat
  let found := (s.ret.round.drop start.toNat).take n
  let content := nat8 s.ret.round.length ++ nat8 s.candidateCount ++ nat8 found.length ++ found.flatMap entryBytes
  (s, { result := okIf (n ≠ count.toNat), content := content })

/-- The entry of a listed chamber becomes forced, and is promoted where URGENT was asked (R117). -/
def forceEntry (c : ChamberNo) (u : Urgency) (s : State) : State :=
  let s := rewriteEntry c (fun e => { e with forced := true }) s
  if u = .urgent then promote c s else s

/-- A forced entry for a chamber that is not listed: URGENT where asked or where the chamber is FULL; the candidate
flag is cleared (R117). -/
def addEntry (c : ChamberNo) (u : Urgency) (s : State) : State :=
  makeEntry c (if u = .urgent then .urgent else urgencyBy (s.access c)) true (setCandidate c false s)

/-- ROUND ADD (R117). -/
def takeRoundAdd (chamber urgency : Byte) (s : State) : State × Reply :=
  match chamberOf chamber, urgencyOf urgency with
  | some c, some u =>
    if (s.chamber c).config.isNone then (s, bare .badValue)
    else if (s.roundEntry c).isSome then (forceEntry c u s, bare .ok)
    else if s.ret.round.length ≥ Config.roundRoom then (s, bare .listFull)
    else (addEntry c u s, bare .ok)
  | _, _ => (s, bare .badValue)

/-- ROUND DROP (R118). -/
def takeRoundDrop (chamber : Byte) (s : State) : State × Reply :=
  match chamberOf chamber with
  | none => (s, bare .badValue)
  | some c =>
    match s.roundEntry c with
    | none => (s, bare .notFound)
    | some e => if e.state = .waiting then (removeEntry c s, bare .ok) else (s, bare .refused)

/-! ## Deposit journal -/

/-- JOURNAL READ (R103). -/
def takeJournalRead (start : BitVec 16) (count : Byte) (s : State) : State × Reply :=
  let n := clampTo 1 12 count.toNat
  let found := (s.ret.journal.drop start.toNat).take n
  let content := nat16 s.ret.journal.length ++ nat8 s.openSessions ++ split32 s.headSeq ++ nat8 found.length ++
    found.flatMap journalBytes
  (s, { result := okIf (n ≠ count.toNat), content := content })

/-- The counts every JOURNAL RELEASE reply carries (R104): the records removed, and the journal after the request. -/
def releaseCounts (removed : Nat) (s : State) : List Byte :=
  nat16 removed ++ nat16 s.ret.journal.length ++ nat8 s.openSessions ++ split32 s.headSeq

/-- Removes the oldest records (R104). The key (JOURNAL) is posted once where the record count falls below 3072 (R106)
or the room taken below 4096 (R107). -/
def releaseRecords (n : Nat) (s : State) : State :=
  let s' := s.onRet fun r => { r with journal := r.journal.drop n }
  let belowMark : Bool := s.highWater && !s'.highWater
  let belowRoom : Bool := s.journalFull && !s'.journalFull
  if belowMark || belowRoom then post .journal s' else s'

/-- JOURNAL RELEASE (R104). -/
def takeJournalRelease (count : BitVec 16) (expected : Option Seconds) (s : State) : State × Reply :=
  if expected.any (fun h => h ≠ s.headSeq) then (s, { result := .refused, content := releaseCounts 0 s })
  else
    let n := min count.toNat s.ret.journal.length
    let s := releaseRecords n s
    (s, { result := okIf (n ≠ count.toNat), content := releaseCounts n s })

end Sys2Proof.Machine
end

