-- ==== Sys2Proof/Machine/LineRequests.lean ====
section
/-! DEFINITION. The host's line requests (R54, R146, R154, R164, R169, R170). -/

namespace Sys2Proof.Machine

/-- The power state in one byte (section 10.5). -/
def powerByte (s : State) : List Byte := nat8 s.main.line.power.state.code

/-- LINE CENSUS (R146, R169): refused BUSY with its code alone while a census is RUNNING; taken in DORMANT it also wakes
the line. -/
def takeLineCensus (s : State) : State × Reply :=
  if s.censusRunning then (s, bare .busy)
  else
    let s := s.onCensus fun k => { k with state := .pending }
    let s := if s.main.line.power.state = .dormant then wake .hostCensus s else s
    (arbitrate s, { result := .ok, content := powerByte s })

/-- LINE SWEEP (R54, R169): requested at once in ACTIVE and PREPARING; in DORMANT it wakes the line, and in WAKING it
changes nothing, the sweep being the one that R168 requests. -/
def takeLineSweep (s : State) : State × Reply :=
  let s := match s.main.line.power.state with
    | .active | .preparing => requestSweep s
    | .dormant => wake .hostSweep s
    | .waking => s
  (arbitrate s, { result := .ok, content := powerByte s ++ nat8 s.owedCount })

/-- LINE DORMANT (R164). Every reply carries the power state after the request. -/
def takeLineDormant (s : State) : State × Reply :=
  match s.main.line.power.state with
  | .active =>
    if s.quietSite then
      let s := enterPreparing .hostDormant s
      (arbitrate s, { result := .ok, content := powerByte s })
    else (s, { result := .refused, content := powerByte s })
  | .preparing | .dormant => (s, { result := .ok, content := powerByte s })
  | .waking => (s, { result := .refused, content := powerByte s })

/-- LINE WAKE (R165, R169). -/
def takeLineWake (s : State) : State × Reply :=
  let s := match s.main.line.power.state with
    | .preparing => abandonPreparation .hostWake s
    | .dormant => wake .hostWake s
    | .active | .waking => s
  (arbitrate s, { result := .ok, content := powerByte s })

/-! ## LINE RESET (R154) -/

/-- Step 1 of R154: the turn in progress and a RUNNING census are abandoned. A pending binding STATUS goes with its entry
in step 5. -/
def resetTurns (s : State) : State :=
  (s.setTurn none).onCensus fun k => { k with state := if k.state = .running then .idle else k.state, kept := false }

/-- Step 2 of R154: every configured chamber OFFLINE, every slot cleared, every in-flight record cleared. The rule gives no
order among the chambers: here they are taken by rising number (DESIGN CHOICE, assumption log entry 39). -/
def resetChambers (s : State) : State :=
  let wanted := (indexes 64).filter fun c => (s.chamber c).config.isSome
  let s := eachOf wanted (setAccess · .offline) s
  let s := eachOf (indexes 64) clearSlot s
  eachOf (indexes 16) clearInflight s

/-- Step 3 of R154: every open session closes UNCONFIRMED. -/
def resetSessions (s : State) : State := eachOf (indexes 64) (fun c => closeSession c (some .unconfirmed) false) s

/-- Closes every open visit EXPIRED, `fuel` at most (R154, step 4). The order among several is left open and chosen
freely (DESIGN CHOICE, assumption log entry 3). -/
def expireVisits : Nat → State → State
  | 0, s => s
  | fuel + 1, s =>
    match pickFree ((indexes 4).filter fun p => (look s.ret.visits p).isSome) s with
    | (some p, s) => expireVisits fuel (closeVisit p .expired s)
    | (none, s) => s

/-- Step 5 of R154: the table and the withheld set are emptied, the stations lose their addresses, and the attention
state is reset (R170). -/
def resetTable (s : State) : State :=
  let s := s.onLine fun l =>
    { l with table := Vector.replicate 16 none, withheld := Vector.replicate 16 false,
             attention := { won := none, toggles := Vector.replicate 16 false } }
  s.onRet fun r =>
    { r with stations := mapAll (fun x =>
        { x with address := none, missRun := 0, node := if x.serial.isSome then .offline else x.node }) r.stations }

/-- The effect of LINE RESET on the power record (R170). -/
def resetPower (s : State) : State :=
  match s.main.line.power.state with
  | .active => setQuiet s
  | .preparing => setQuiet (changePower .active .reset s)
  | .dormant => wake .reset s
  | .waking => s

/-- Step 6 of R154: DROP_ADDRESS is the next turn, and a census is requested. While the line is DORMANT or WAKING both wait
until it is ACTIVE: DROP_ADDRESS stays due, and the census is requested with the settle end (`lineSettled`). -/
def resetFollow (s : State) : State :=
  let s := s.onLine fun l => { l with dropDue := true }
  match s.main.line.power.state with
  | .active | .preparing => requestCensus s
  | .dormant | .waking => s

/-- Steps 6 and 7 of R154, with R170: DROP_ADDRESS and the census, the power state, and (LINE) and the (NODE, address) key
of each address that was in the table. The rule gives no order among those keys: here they
join by rising address (DESIGN CHOICE, assumption log entry 39). -/
def resetNotices (old : Vector (Option LineEntry) 16) (s : State) : State :=
  let s := post .line (resetPower (resetFollow s))
  eachOf (indexes 16) (fun a s => match look old a with
    | some e => postNode a e.serial s
    | none => s) s

/-- The effects of a LINE RESET (R154). -/
def resetLine (s : State) : State :=
  let old := s.main.line.table
  resetNotices old (resetTable (expireVisits 4 (resetSessions (resetChambers (resetTurns s)))))

/-- LINE RESET (R154): its reply carries the code alone. -/
def takeLineReset (s : State) : State × Reply := (arbitrate (resetLine s), bare .ok)

end Sys2Proof.Machine
end

