-- ==== Sys2Proof/Machine/SiteRequests.lean ====
section
/-! DEFINITION. The site's requests: SITE STATUS (R179), SITE SET (R178) and PART RESTART (R187). -/

namespace Sys2Proof.Machine

/-- SITE STATUS (R179). -/
def takeSiteStatus (s : State) : State × Reply := (s, { result := .ok, content := siteStatusBytes s })

/-- A quiet period as it is stored (R162, R178): 0 stands, 1..59 is clamped to 60. -/
def quietClamp (n : Nat) : Nat := if n = 0 then 0 else clampTo 60 3600 n

/-- The settings after a SITE SET (R178): each masked value clamped into its range. -/
def writeSettings (f : SiteFields) (charged : FractionSet) (g : Settings) : Settings :=
  { charged := if f.mask.getLsbD 0 then charged else g.charged
    responseWindow := if f.mask.getLsbD 1 then clampTo 5 250 f.window.toNat else g.responseWindow
    censusPeriod := if f.mask.getLsbD 2 then clampTo 10 600 f.censusPeriod.toNat else g.censusPeriod
    quietPeriod := if f.mask.getLsbD 3 then quietClamp f.quietPeriod.toNat else g.quietPeriod
    dormantLimit := if f.mask.getLsbD 4 then clampTo 60 3600 f.dormantLimit.toNat else g.dormantLimit
    visitWindow := if f.mask.getLsbD 5 then clampTo 300 3600 f.visitWindow.toNat else g.visitWindow
    returnLimit := if f.mask.getLsbD 6 then clampTo 120 1800 f.returnLimit.toNat else g.returnLimit }

/-- Some masked value of a SITE SET lies outside its range (R178). -/
def settingsClamp (f : SiteFields) : Bool :=
  (f.mask.getLsbD 1 && clampTo 5 250 f.window.toNat ≠ f.window.toNat) ||
    (f.mask.getLsbD 2 && clampTo 10 600 f.censusPeriod.toNat ≠ f.censusPeriod.toNat) ||
    (f.mask.getLsbD 3 && quietClamp f.quietPeriod.toNat ≠ f.quietPeriod.toNat) ||
    (f.mask.getLsbD 4 && clampTo 60 3600 f.dormantLimit.toNat ≠ f.dormantLimit.toNat) ||
    (f.mask.getLsbD 5 && clampTo 300 3600 f.visitWindow.toNat ≠ f.visitWindow.toNat) ||
    (f.mask.getLsbD 6 && clampTo 120 1800 f.returnLimit.toNat ≠ f.returnLimit.toNat)

/-- The quiet deadline after a quiet period is written (R162): 0 removes a standing one, and a nonzero period written in
ACTIVE sets it. -/
def quietWritten (s : State) : State :=
  if s.ret.settings.quietPeriod = 0 then s.onPower fun w => { w with quiet := none }
  else if s.main.line.power.state = .active then setQuiet s
  else s

/-- The masked settings and the part clock are written (R178, R188). -/
def writeSite (f : SiteFields) (charged : FractionSet) (s : State) : State :=
  let s := s.onRet fun r => { r with settings := writeSettings f charged r.settings }
  let s := if f.mask.getLsbD 3 then quietWritten s else s
  if f.mask.getLsbD 7 then s.onClock fun k => { k with part := f.clock, unset := false } else s

/-- SITE SET (R178). -/
def takeSiteSet (f : SiteFields) (s : State) : State × Reply :=
  match masked (f.mask.getLsbD 0) s.ret.settings.charged (fractionSetOf f.charged) with
  | none => (s, bare .badValue)
  | some charged =>
    let s := writeSite f charged s
    (s, { result := okIf (settingsClamp f), content := settingsBytes s })

/-- PART RESTART (R187): taken in every state with reply OK; the start follows the sending of the reply. -/
def takePartRestart (s : State) : State × Reply := (s, bare .ok)

end Sys2Proof.Machine
end

