-- ==== Sys2Proof/Machine/Operands.lean ====
section
/-! DEFINITION. The operand forms of the host's requests: the payload of each request kind (section 10.5), read and
written, and the kinds with their codes and lengths (section 10.3). -/

namespace Sys2Proof.Machine

/-! ## Codes and lengths (section 10.3) -/

/-- The KIND of a request. -/
def requestKind : Request → Byte
  | .siteStatus => 0x01
  | .siteSet _ => 0x02
  | .partRestart => 0x03
  | .cardPut _ => 0x10
  | .cardAmend _ _ => 0x11
  | .cardGet _ => 0x12
  | .cardRemove _ => 0x13
  | .cardScan _ _ => 0x14
  | .accountPut _ _ => 0x15
  | .accountAmend _ _ _ => 0x16
  | .accountGet _ => 0x17
  | .groupWrite _ => 0x18
  | .classPut _ _ => 0x19
  | .classGet _ => 0x1A
  | .chamberSet _ _ => 0x20
  | .chamberGet _ => 0x21
  | .chamberClear _ => 0x22
  | .profilePut _ _ => 0x23
  | .profileGet _ => 0x24
  | .stationBind _ _ => 0x25
  | .stationGet _ => 0x26
  | .roundRead _ _ => 0x30
  | .roundAdd _ _ => 0x31
  | .roundDrop _ => 0x32
  | .journalRead _ _ => 0x38
  | .journalRelease _ _ => 0x39
  | .lineCensus => 0x40
  | .lineSweep => 0x41
  | .lineDormant => 0x42
  | .lineWake => 0x43
  | .lineReset => 0x44

/-- The request kinds with their fixed payload lengths. -/
def catalogue : List (Byte × Nat) :=
  [(0x01, 0), (0x02, 17), (0x03, 0), (0x10, 12), (0x11, 13), (0x12, 5), (0x13, 5), (0x14, 3), (0x15, 9), (0x16, 10),
    (0x17, 2), (0x18, 9), (0x19, 18), (0x1A, 1), (0x20, 22), (0x21, 1), (0x22, 1), (0x23, 19), (0x24, 1), (0x25, 8),
    (0x26, 1), (0x30, 2), (0x31, 2), (0x32, 1), (0x38, 3), (0x39, 7), (0x40, 0), (0x41, 0), (0x42, 0), (0x43, 0),
    (0x44, 0)]

/-- The payload length of a request kind; none where the KIND is not a request kind. -/
def requestLength (kind : Byte) : Option Nat := catalogue.lookup kind

/-! ## Writing payloads (section 10.5) -/

/-- Bytes 0..11 of the card record. -/
def encodeCard (f : CardFields) : List Byte :=
  split40 f.card ++ split16 f.account ++ [f.rights, f.state, flagByte f.scope.isSome] ++ optBytes 2 split16 f.scope

/-- Bytes 0..6 of the account record. -/
def encodeAccount (f : AccountFields) : List Byte :=
  [f.state, f.group] ++ split16 f.allowance ++ [f.overdraft] ++ split16 f.used

/-- The payload of a request. -/
def requestPayload : Request → List Byte
  | .siteStatus | .partRestart | .lineCensus | .lineSweep | .lineDormant | .lineWake | .lineReset => []
  | .siteSet f =>
    [f.mask, f.charged, f.window] ++ split16 f.censusPeriod ++ split16 f.quietPeriod ++ split16 f.dormantLimit ++
      split16 f.visitWindow ++ split16 f.returnLimit ++ split32 f.clock
  | .cardPut f => encodeCard f
  | .cardAmend mask f => mask :: encodeCard f
  | .cardGet n | .cardRemove n => split40 n
  | .cardScan start count => split16 start ++ [count]
  | .accountPut i f => split16 i ++ encodeAccount f
  | .accountAmend i mask f => split16 i ++ mask :: encodeAccount f
  | .accountGet i => split16 i
  | .groupWrite f =>
    [f.value, f.groupMask, f.fieldMask, f.state] ++ split16 f.allowance ++ [f.overdraft] ++ split16 f.used
  | .classPut slot f =>
    [slot, flagByte f.enabled] ++ split40 f.value ++ split40 f.mask ++ [f.kind, f.rights, flagByte f.account.isSome] ++
      optBytes 2 split16 f.account ++ [f.mode]
  | .classGet b | .chamberGet b | .chamberClear b | .profileGet b | .stationGet b | .roundDrop b => [b]
  | .chamberSet c f =>
    [c, f.station, f.slot, f.fraction, f.profile] ++ split16 f.capacity ++ [f.drum] ++ split16 f.depth ++
      split16 f.clearance ++ split16 f.request ++ split16 f.full ++ split16 f.tdown ++ [f.minQuality, f.window] ++
      split16 f.interval
  | .profilePut p f =>
    p :: (split16 f.p0 ++ split16 f.p1 ++ split16 f.p2 ++ split16 f.p3 ++ split16 f.p4 ++ split16 f.p5 ++ split16 f.p6 ++
      split16 f.p7 ++ split16 f.p8)
  | .stationBind st serial => [st, flagByte serial.isSome] ++ optBytes 6 split48 serial
  | .roundRead start count => [start, count]
  | .roundAdd c u => [c, u]
  | .journalRead start count => split16 start ++ [count]
  | .journalRelease count expected => split16 count ++ [flagByte expected.isSome] ++ optBytes 4 split32 expected

/-! ## Reading payloads (section 10.5) -/

/-- A value that a flag byte's bit 0 says is present. The flag byte's other bits are not read. -/
def present {α : Type} (flag : Byte) (x : α) : Option α := if flag.getLsbD 0 then some x else none

/-- Bytes 0..11 of the card record; bit 1 of byte 9 is ignored. -/
def decodeCard : List Byte → Option CardFields
  | [a, b, c, d, e, n1, n0, rights, state, flags, s1, s0] =>
    some { card := join40 a b c d e, account := join16 n1 n0, rights := rights, state := state,
           scope := present flags (join16 s1 s0) }
  | _ => none

/-- Bytes 0..6 of the account record. -/
def decodeAccount : List Byte → Option AccountFields
  | [state, group, a1, a0, overdraft, u1, u0] =>
    some { state := state, group := group, allowance := join16 a1 a0, overdraft := overdraft, used := join16 u1 u0 }
  | _ => none

def decodeSiteSet : List Byte → Option Request
  | [m, ch, w, c1, c0, q1, q0, d1, d0, v1, v0, r1, r0, k3, k2, k1, k0] =>
    some (.siteSet { mask := m, charged := ch, window := w, censusPeriod := join16 c1 c0, quietPeriod := join16 q1 q0,
                     dormantLimit := join16 d1 d0, visitWindow := join16 v1 v0, returnLimit := join16 r1 r0,
                     clock := join32 k3 k2 k1 k0 })
  | _ => none

def decodeGroupWrite : List Byte → Option Request
  | [v, gm, fm, st, a1, a0, o, u1, u0] =>
    some (.groupWrite { value := v, groupMask := gm, fieldMask := fm, state := st, allowance := join16 a1 a0,
                        overdraft := o, used := join16 u1 u0 })
  | _ => none

def decodeClassPut : List Byte → Option Request
  | [slot, en, v4, v3, v2, v1, v0, m4, m3, m2, m1, m0, kind, rights, flag, a1, a0, mode] =>
    some (.classPut slot { enabled := en.getLsbD 0, value := join40 v4 v3 v2 v1 v0, mask := join40 m4 m3 m2 m1 m0,
                           kind := kind, rights := rights, account := present flag (join16 a1 a0), mode := mode })
  | _ => none

def decodeChamberSet : List Byte → Option Request
  | [c, st, sl, fr, pr, a1, a0, dr, h1, h0, l1, l0, r1, r0, f1, f0, t1, t0, q, w, i1, i0] =>
    some (.chamberSet c
      { station := st, slot := sl, fraction := fr, profile := pr, capacity := join16 a1 a0, drum := dr,
        depth := join16 h1 h0, clearance := join16 l1 l0, request := join16 r1 r0, full := join16 f1 f0,
        tdown := join16 t1 t0, minQuality := q, window := w, interval := join16 i1 i0 })
  | _ => none

def decodeProfilePut : List Byte → Option Request
  | [p, a1, a0, b1, b0, c1, c0, d1, d0, e1, e0, f1, f0, g1, g0, h1, h0, i1, i0] =>
    some (.profilePut p
      { p0 := join16 a1 a0, p1 := join16 b1 b0, p2 := join16 c1 c0, p3 := join16 d1 d0, p4 := join16 e1 e0,
        p5 := join16 f1 f0, p6 := join16 g1 g0, p7 := join16 h1 h0, p8 := join16 i1 i0 })
  | _ => none

/-- A payload of no bytes. -/
def decodeNone (r : Request) (p : List Byte) : Option Request := if p = [] then some r else none

/-- A payload of one byte. -/
def decodeByte (f : Byte → Request) : List Byte → Option Request
  | [b] => some (f b)
  | _ => none

/-- A payload of two bytes. -/
def decodePair (f : Byte → Byte → Request) : List Byte → Option Request
  | [a, b] => some (f a b)
  | _ => none

/-- A payload of a two-byte number and a count. -/
def decodeScan (f : BitVec 16 → Byte → Request) : List Byte → Option Request
  | [a, b, n] => some (f (join16 a b) n)
  | _ => none

/-- A payload of a card number. -/
def decodeNumber (f : CardNo → Request) : List Byte → Option Request
  | [a, b, c, d, e] => some (f (join40 a b c d e))
  | _ => none

def decodeCardAmend : List Byte → Option Request
  | m :: rest => (decodeCard rest).map (.cardAmend m)
  | _ => none

def decodeAccountPut : List Byte → Option Request
  | i1 :: i0 :: rest => (decodeAccount rest).map (.accountPut (join16 i1 i0))
  | _ => none

def decodeAccountAmend : List Byte → Option Request
  | i1 :: i0 :: m :: rest => (decodeAccount rest).map (.accountAmend (join16 i1 i0) m)
  | _ => none

def decodeAccountGet : List Byte → Option Request
  | [i1, i0] => some (.accountGet (join16 i1 i0))
  | _ => none

def decodeStationBind : List Byte → Option Request
  | [st, flag, a, b, c, d, e, f] => some (.stationBind st (present flag (join48 a b c d e f)))
  | _ => none

def decodeJournalRelease : List Byte → Option Request
  | [n1, n0, flag, h3, h2, h1, h0] => some (.journalRelease (join16 n1 n0) (present flag (join32 h3 h2 h1 h0)))
  | _ => none

/-- The request that a KIND and a payload spell. -/
def decodeRequest (kind : Byte) (p : List Byte) : Option Request :=
  if kind = 0x01 then decodeNone .siteStatus p
  else if kind = 0x02 then decodeSiteSet p
  else if kind = 0x03 then decodeNone .partRestart p
  else if kind = 0x10 then (decodeCard p).map .cardPut
  else if kind = 0x11 then decodeCardAmend p
  else if kind = 0x12 then decodeNumber .cardGet p
  else if kind = 0x13 then decodeNumber .cardRemove p
  else if kind = 0x14 then decodeScan .cardScan p
  else if kind = 0x15 then decodeAccountPut p
  else if kind = 0x16 then decodeAccountAmend p
  else if kind = 0x17 then decodeAccountGet p
  else if kind = 0x18 then decodeGroupWrite p
  else if kind = 0x19 then decodeClassPut p
  else if kind = 0x1A then decodeByte .classGet p
  else if kind = 0x20 then decodeChamberSet p
  else if kind = 0x21 then decodeByte .chamberGet p
  else if kind = 0x22 then decodeByte .chamberClear p
  else if kind = 0x23 then decodeProfilePut p
  else if kind = 0x24 then decodeByte .profileGet p
  else if kind = 0x25 then decodeStationBind p
  else if kind = 0x26 then decodeByte .stationGet p
  else if kind = 0x30 then decodePair .roundRead p
  else if kind = 0x31 then decodePair .roundAdd p
  else if kind = 0x32 then decodeByte .roundDrop p
  else if kind = 0x38 then decodeScan .journalRead p
  else if kind = 0x39 then decodeJournalRelease p
  else if kind = 0x40 then decodeNone .lineCensus p
  else if kind = 0x41 then decodeNone .lineSweep p
  else if kind = 0x42 then decodeNone .lineDormant p
  else if kind = 0x43 then decodeNone .lineWake p
  else if kind = 0x44 then decodeNone .lineReset p
  else none

/-- What the checks of R174 make of a received KIND and payload. -/
inductive Checked where
  | unknownKind
  | badLength
  | good (r : Request)
  deriving DecidableEq, Repr

/-- The checks of R174, in order. -/
def checkRequest (kind : Byte) (p : List Byte) : Checked :=
  match requestLength kind with
  | none => .unknownKind
  | some n =>
    if p.length ≠ n then .badLength
    else match decodeRequest kind p with
      | some r => .good r
      | none => .badLength

end Sys2Proof.Machine
end

