-- ==== Sys2Proof/Machine/HostLink.lean ====
section
/-! DEFINITION. The host link (Chapter 10): the taking of requests, the request queue and the busy list (R174 to R176),
the transmitter's arbiter (R181) and the receiver (R172). -/

namespace Sys2Proof.Machine

/-! ## Taking (R175, R176) -/

/-- The owner's action on a request, with its reply. -/
def act (r : Request) (s : State) : State × Reply :=
  match r with
  | .siteStatus => takeSiteStatus s
  | .siteSet f => takeSiteSet f s
  | .partRestart => takePartRestart s
  | .cardPut f => takeCardPut f s
  | .cardAmend mask f => takeCardAmend mask f s
  | .cardGet n => takeCardGet n s
  | .cardRemove n => takeCardRemove n s
  | .cardScan start count => takeCardScan start count s
  | .accountPut i f => takeAccountPut i f s
  | .accountAmend i mask f => takeAccountAmend i mask f s
  | .accountGet i => takeAccountGet i s
  | .groupWrite f => takeGroupWrite f s
  | .classPut slot f => takeClassPut slot f s
  | .classGet slot => takeClassGet slot s
  | .chamberSet c f => takeChamberSet c f s
  | .chamberGet c => takeChamberGet c s
  | .chamberClear c => takeChamberClear c s
  | .profilePut p f => takeProfilePut p f s
  | .profileGet p => takeProfileGet p s
  | .stationBind st serial => takeStationBind st serial s
  | .stationGet st => takeStationGet st s
  | .roundRead start count => takeRoundRead start count s
  | .roundAdd c u => takeRoundAdd c u s
  | .roundDrop c => takeRoundDrop c s
  | .journalRead start count => takeJournalRead start count s
  | .journalRelease count expected => takeJournalRelease count expected s
  | .lineCensus => takeLineCensus s
  | .lineSweep => takeLineSweep s
  | .lineDormant => takeLineDormant s
  | .lineWake => takeLineWake s
  | .lineReset => takeLineReset s

/-- The KIND of a reply to a received KIND (R176). -/
def replyKind (kind : Byte) : Byte := if kind.toNat < 0x80 then kind + 0x80 else 0xFF

/-- A reply frame: its result code, then its content (R176). -/
def replyFrame (kind tag : Byte) (r : Reply) : List Byte := hostFrame (replyKind kind) tag (r.result.code :: r.content)

/-- Takes the request at the head of the queue where its reply is not ready yet (R175). While a warm start is due after
the reply of a PART RESTART, no request is taken (R187). -/
def takeHead (s : State) : State :=
  match s.main.host.queue, s.main.host.reply, s.main.host.restartDue with
  | q :: _, none, false =>
    let (s', r) := act q.req s
    s'.onHost fun h => { h with reply := some (replyFrame (requestKind q.req) q.tag r) }
  | _, _, _ => s

/-! ## The transmitter (R181) -/

/-- Starts the next frame where the transmitter is free: the ready reply, else the oldest busy-class reply, else the
notice at the head of the outbox, built now. Once the reply of a PART RESTART has been sent, the warm start comes
before any other frame (R187). -/
def kickTx (s : State) : State :=
  let h := s.main.host
  if h.tx.isSome || h.restartDue then s
  else match h.reply, h.busy, h.outbox with
    | some f, _, _ => s.onHost fun h => { h with tx := some (.reply f) }
    | none, f :: rest, _ => s.onHost fun h => { h with tx := some (.busy f), busy := rest }
    | none, [], k :: rest =>
      let s := s.onHost fun h => { h with outbox := rest }
      let f := noticeFrame s k
      s.onHost fun h => { h with tx := some (.notice f) }
    | none, [], [] => s

/-- The end of every handling on the line: the line arbiter starts a turn where the line is free (R135), then the
transmitter a frame where it is free (R181). -/
def settle (s : State) : State := kickTx (arbitrate s)

/-! ## Arrival (R174, R175) -/

/-- Puts a busy-class reply in the busy list, or discards the request with no reply where the list is full (R175). -/
def busyReply (kind tag : Byte) (r : Result) (s : State) : State :=
  if s.main.host.busy.length < Config.busyRoom then
    s.onHost fun h => { h with busy := h.busy ++ [replyFrame kind tag (bare r)] }
  else s

/-- A request enters the queue, and is taken at once where it stands at the head; a full queue answers BUSY (R175). -/
def enqueue (tag : Byte) (r : Request) (s : State) : State :=
  if s.main.host.queue.length < Config.queueRoom then
    let s' := s.onHost fun h => { h with queue := h.queue ++ [{ tag := tag, req := r }] }
    if s.main.host.queue.isEmpty then takeHead s' else s'
  else busyReply (requestKind r) tag .busy s

/-- A frame that passed the receiver's checks (R174). -/
def takeFrame (kind tag : Byte) (payload : List Byte) (s : State) : State :=
  match checkRequest kind payload with
  | .unknownKind => busyReply kind tag .unknownKind s
  | .badLength => busyReply kind tag .badLength s
  | .good r => enqueue tag r s

/-- One byte arrives on HRX (R172). -/
def receive (b : Byte) (s : State) : State :=
  let (rx, got) := receiveByte s.main.host.rx b
  let s := s.onHost fun h => { h with rx := rx }
  match got with
  | some (kind, tag, payload) => kickTx (takeFrame kind tag payload s)
  | none => s

/-- Bytes arrive on HRX, one after the other (R172). -/
def receiveAll (bytes : List Byte) (s : State) : State := eachOf bytes receive s

/-- A well-formed request frame with this TAG and request arrives (R172, R175). A TAG of 0 is discarded by the receiver;
no request is taken while main power is absent. -/
def arrive (tag : Byte) (r : Request) (s : State) : State :=
  if s.vdd = false ∨ tag = 0 then s else kickTx (enqueue tag r s)

/-! ## The end of a frame on HTX (R175, R181, R187) -/

/-- The reply of the request at the head of the queue has been sent in full: its place is freed, and the next request is
taken, but for a PART RESTART, after whose reply the warm start is due (R175, R187). -/
def replySent (s : State) : State :=
  match s.main.host.queue with
  | [] => s.onHost fun h => { h with reply := none }
  | q :: rest =>
    let s := s.onHost fun h => { h with queue := rest, reply := none }
    if q.req = .partRestart then s.onHost fun h => { h with restartDue := true } else takeHead s

/-- The frame on HTX has left the transmitter (R181). -/
def txEnded (s : State) : State :=
  match s.main.host.tx with
  | none => s
  | some x =>
    let s := s.onHost fun h => { h with tx := none }
    match x with
    | .reply _ => kickTx (replySent s)
    | .busy _ | .notice _ => kickTx s

end Sys2Proof.Machine
end

