-- ==== Sys2Proof/Machine/Starts.lean ====
section
/-! DEFINITION. The two supplies, the two starts and the clock (Chapter 11): power loss, cold and warm start, each cut
short where main power fails during it, and the passing of time on an empty queue. -/

namespace Sys2Proof.Machine

/-! ## Supplies (R184, R185) -/

/-- A session without its guard deadline, which belongs to the main domain (R184). -/
def Session.unguarded (x : Session) : Session := { x with guard := none }

/-- A visit without its deadline, which belongs to the main domain (R184). -/
def Visit.undated (v : Visit) : Visit := { v with deadline := none }

/-- Main power is removed (R184): the main domain is lost with every deadline, and the retained domain stands. The main
domain's contents until the next start are the model's own choice (DESIGN CHOICE, assumption log entry 8). -/
def mainLost (s : State) : State :=
  let s := s.onRet fun r =>
    { r with sessions := mapAll (Option.map Session.unguarded) r.sessions,
             visits := mapAll (Option.map Visit.undated) r.visits }
  { s with vdd := false, main := Main.start coldSettings Retained.cold.clock }

/-- The backup supply is lost while main power is absent (R185): the marker is lost, and every part of the retained
domain counts as unknown. -/
def backupLost (s : State) : State :=
  { s with vbk := false, marker := false, ret := Config.unknownRetained s.freeCount, freeCount := s.freeCount + 1 }

/-- Main power returns. The manual does not say when a lost backup supply comes back: here it does with main power (DESIGN
CHOICE, assumption log entry 38). -/
def mainRestored (s : State) : State := { s with vdd := true, vbk := true }

/-! ## Starts in stages (R185, R186) -/

/-- Runs the stages of a start. Where main power fails after `n` of them, the stages taken stand and the main domain is
lost; a count that reaches the end cuts nothing. -/
def runStages (cut : Option Nat) (stages : List (State → State)) (s : State) : State :=
  match cut with
  | none => stages.foldl (fun s f => f s) s
  | some n =>
    if n < stages.length then mainLost ((stages.take n).foldl (fun s f => f s) s)
    else stages.foldl (fun s f => f s) s

/-- A cold start's first stage: every retained item at its cold value, the main domain at its start values (R185). -/
def coldDefaults (s : State) : State :=
  { s with ret := Retained.cold, main := Main.start Retained.cold.settings Retained.cold.clock }

/-- A cold start's last stage: the marker is written, a census is requested and (LINE) is posted (R185). -/
def coldMarker (s : State) : State := post .line (requestCensus { s with marker := true })

def coldStages : List (State → State) := [coldDefaults, coldMarker]

/-- A station record at a warm start (R14). -/
def Station.restarted (x : Station) : Station :=
  { x with address := none, missRun := 0, node := if x.serial.isSome then .offline else .notBound }

/-- A chamber record at a warm start: S from the retained configuration, E and health computed again (R17, R31, R55). -/
def Chamber.restarted (ch : Chamber) : Chamber :=
  match ch.config with
  | some g =>
    { ch with estimate :=
        ({ ch.estimate with step := stepOf g.capacity g.drum } : Estimate).refill.rehealth }
  | none => { ch with lastAttempt := none, due := false }

/-- The site map that the configurations give (R1, R17). -/
def siteMapOf (chambers : Vector Chamber 64) : Vector (Vector (Option ChamberNo) 4) 16 :=
  Vector.ofFn fun st => Vector.ofFn fun sl =>
    lowest fun c => (look chambers c).config.any fun g => g.station = st && g.slot = sl

/-- Step 1 of R186, with the retained records' own values at a warm start (R14, R17). -/
def warmBegin (s : State) : State :=
  let s := s.onRet fun r =>
    { r with stations := mapAll Station.restarted r.stations, chambers := mapAll Chamber.restarted r.chambers,
             siteMap := siteMapOf r.chambers }
  post .line { s with main := Main.start s.ret.settings s.ret.clock }

/-- A key leaves the outbox. -/
def withdrawKey (k : Key) (s : State) : State :=
  s.onHost fun h => { h with outbox := h.outbox.filter fun e => e.key ≠ k }

/-- Step 2 of R186 for one chamber: its session closes UNCONFIRMED (R93). The posting of (JOURNAL) at the high-water mark
is the one of R110, after all closures. -/
def warmClose (c : ChamberNo) (s : State) : State := withdrawKey .journal (closeSession c (some .unconfirmed) false s)

/-- The JOURNAL key of R110. -/
def warmJournal (s : State) : State := if s.highWater then post .journal s else s

/-- Step 3 of R186 for one chamber (R18), but for its round entry, which `warmRound` sets (assumption log entry 40). The
return deadline of a lift mark starts afresh, also where an interrupted start had made its chamber OFFLINE already (R186);
a chamber BLOCKED with its mark gets none here, since R18 names LIFTED alone (DEDUCED, assumption log entry 22). -/
def warmReconcile (c : ChamberNo) (s : State) : State :=
  if (s.chamber c).config.isNone then s
  else
    let s := if lockedUp (s.access c) then setAccess c (byFill s c) s else s
    let out : Bool := s.access c = .lifted || s.access c = .offline
    let s := if out && (s.chamber c).liftMark.isSome then
        s.setReturn c (some (s.deadlineIn s.ret.settings.returnLimit)) else s
    setAccess c .offline s

/-- Every entry of the round list WAITING (R134). -/
def allWaiting (s : State) : State := changeRound (s.ret.round.map fun e => { e with state := .waiting }) s

/-- The rest of step 3 of R186 before its evaluation pass: every entry WAITING, no candidate (R134). The entry of a chamber
that was LOCKING or LOCKED is set WAITING here too, after all chambers, as R186 words it, and not in that chamber's own turn,
as R18 does; so (ROUND) joins the outbox behind every CHAMBER key of the step (DESIGN CHOICE, assumption log entry 40). -/
def warmRound (s : State) : State := eachOf (indexes 64) (setCandidate · false) (allWaiting s)

/-- Step 4 of R186: the crew visit table is emptied (R134). An entry that the evaluation pass made IN_VISIT, its visit being
still in the table, is WAITING like every other (DEDUCED, assumption log entry 12). -/
def warmVisits (s : State) : State := allWaiting (s.setVisits (Vector.replicate 4 none))

/-- Step 5 of R186: a census and a full sweep are requested. -/
def warmLine (s : State) : State := requestSweep (requestCensus s)

/-- The last-start record is written (R185, R186). -/
def warmRecord (kind : StartKind) (s : State) : State :=
  s.onRet fun r => { r with lastStart := { kind := kind, time := r.clock.part } }

/-- The stages of a warm start, in the order of R186. R18 gives no order among the chambers it takes in turn: here they are
taken by rising number (DESIGN CHOICE, assumption log entry 39). -/
def warmStages (kind : StartKind) : List (State → State) :=
  [warmBegin] ++ (indexes 64).map warmClose ++ [warmJournal] ++ (indexes 64).map warmReconcile ++ [warmRound] ++
    (indexes 64).map evaluate ++ [warmVisits, warmLine, warmRecord kind]

/-- A start that has run to its end serves events: the line and the transmitter begin. A start that was cut has no
power. -/
def serve (s : State) : State := if s.vdd then settle s else s

/-- A cold start, on a state with main power (R185). -/
def coldStart (cut : Option Nat) (s : State) : State := serve (runStages cut coldStages { s with marker := false })

/-- A warm start, on a state with main power (R186). -/
def warmStart (kind : StartKind) (cut : Option Nat) (s : State) : State := serve (runStages cut (warmStages kind) s)

/-- The part's clocks run: one supply is present (R188). -/
def State.clockRuns (s : State) : Bool := s.vdd || s.vbk

/-- One second passes with no command waiting (DESIGN CHOICE, assumption log entry 1): the clocks run where a supply is present, and
with main power the line and the transmitter begin what waits. -/
def idle (s : State) : State :=
  if s.vdd then settle (pass 1 s) else if s.vbk then pass 1 s else s

end Sys2Proof.Machine
end

