-- ==== Sys2Proof/Machine/LineEvents.lean ====
section
/-! DEFINITION. The events of the station line (Chapters 8 and 9): the ends of transactions (R138, R139), the windows
that are read (R148, R157) and the broadcasts that have been sent (R147, R154, R166). An event that does not fit the
turn in progress changes nothing. -/

namespace Sys2Proof.Machine

/-- A command that needs main power: its effect where main power is present, no change where it is absent (R184). -/
def whilePowered (f : State → State) (s : State) : Host.Outcome State Fault Refusal := .next (if s.vdd then f s else s)

/-! ## Answers (R136) -/

/-- The payload of a good frame that answers a transaction sent to an address with a command code. -/
def answerPayload (a : AddrNo) (code : Byte) (frame : List Byte) : Option (List Byte) :=
  match openLineFrame frame with
  | some (addr, cmd, p) => if addr = addrByte a ∧ cmd = code + 0x80 then some p else none
  | none => none

/-- The frame answers a command whose answer carries no payload. -/
def answersBare (a : AddrNo) (code : Byte) (frame : List Byte) : Bool := answerPayload a code frame = some []

/-- A STATUS answer carries the serial the line engine holds for the address, and a slot count in 1..4 (R137). -/
def statusFits (a : AddrNo) (s : State) (ans : StatusAnswer) : Bool :=
  (s.entry a).any (fun e => e.serial = ans.serial) && 1 ≤ ans.count.toNat && ans.count.toNat ≤ 4

/-- The answer that a good frame gives to the STATUS sent to an address (R136, R137), with what its slot report bytes say. -/
def statusAnswer (a : AddrNo) (frame : List Byte) (reports : Vector SlotReport 4) (s : State) : Option StatusAnswer :=
  ((answerPayload a codeStatus frame).bind (readStatus reports)).filter (statusFits a s)

/-! ## The ends of transactions (R139) -/

/-- The ends of an addressed transaction after its owner has acted: the miss run, the loss it may bring, the free line,
and what begins on it (R139, steps 2 to 4). -/
def endTurn (a : AddrNo) (answered : Bool) (s : State) : State := settle (freeLine (countMiss a answered s))

/-- The transaction of a chamber's sending place ends: the place is emptied and the owner acts (R13). -/
def endCommand (owner : ChamberNo → Bool → State → State) (c : ChamberNo) (a : AddrNo) (answered : Bool) (s : State) :
    State :=
  endTurn a answered (owner c answered (s.setSlot c { s.slot c with sending := none }))

/-- An UNLOCK's end for its session (R90): it applies to a session whose UNLOCK is SENT. -/
def unlockEnded (c : ChamberNo) (answered : Bool) (s : State) : State :=
  match s.session c with
  | none => s
  | some ses =>
    if ses.phase = .sent then
      if answered then s.setSession c (some { ses with phase := .answered }) else closeSession c none true s
    else s

/-- A DENY's end concerns no unit (R13). -/
def denyEnded (_ : ChamberNo) (_ : Bool) (s : State) : State := s

/-- The UNLOCK transaction of chamber `c` ends. -/
def endUnlock : ChamberNo → AddrNo → Bool → State → State := endCommand unlockEnded

/-- The DENY transaction of chamber `c` ends. -/
def endDeny : ChamberNo → AddrNo → Bool → State → State := endCommand denyEnded

/-- The LOCK transaction of chamber `c` ends. -/
def endLock : ChamberNo → AddrNo → Bool → State → State := endCommand lockEnded

/-- The RELEASE transaction of chamber `c` ends. -/
def endRelease : ChamberNo → AddrNo → Bool → State → State := endCommand releaseEnded

/-- The MEASURE transaction of a station ends (R46). -/
def endMeasure (st : StationNo) (a : AddrNo) (answered : Bool) (s : State) : State :=
  endTurn a answered (measureEnded st answered s)

/-- An ATTN_READ transaction ends answered, with a record or none (R159). -/
def endReadAnswered (a : AddrNo) (r : Option AttnRecord) (s : State) : State := endTurn a true (readAnswered a r s)

/-- An ATTN_READ transaction ends failed: the attention stays won (R160). -/
def endReadFailed (a : AddrNo) (s : State) : State := endTurn a false s

/-- An ASSIGN transaction ends (R149); it counts toward no miss run (R139). -/
def endAssign (a : AddrNo) (answered : Bool) (s : State) : State :=
  settle (freeLine (if answered then assignAnswered a s.main.line.census.serialRead s else assignFailed a s))

/-- A census STATUS transaction ends answered (R150). -/
def endStatusAnswered (a : AddrNo) (ans : StatusAnswer) (s : State) : State := endTurn a true (statusAnswered a ans s)

/-- A census STATUS transaction ends failed (R150). -/
def endStatusFailed (a : AddrNo) (s : State) : State := endTurn a false (statusFailed a s)

/-- The station a binding STATUS stands for makes it ONLINE (R153). -/
def endBindingAnswered (a : AddrNo) (ans : StatusAnswer) (s : State) : State :=
  match (s.entry a).bind (·.station) with
  | some st => endTurn a true (bindingAnswered a st ans s)
  | none => endTurn a true s

/-- A binding STATUS transaction ends failed (R153). -/
def endBindingFailed (a : AddrNo) (s : State) : State :=
  match s.entry a with
  | some e => endTurn a false (bindingFailed a e.serial s)
  | none => endTurn a false s

/-! ## The turn in progress -/

/-- What the turn in progress is for. -/
def State.turnKind (s : State) : Option TurnKind := s.main.line.turn.map Turn.kind

/-- The chamber and address of the slot command in progress, where the command meets `p`. -/
def State.commandTurn (p : Command → Bool) (s : State) : Option (ChamberNo × AddrNo × Command) :=
  match s.turnKind with
  | some (.command c a) =>
    match (s.slot c).sending with
    | some cmd => if p cmd then some (c, a, cmd) else none
    | none => none
  | _ => none

def isDeny : Command → Bool
  | .deny _ => true
  | _ => false

/-- The end of a slot command whose answer carries no payload: a frame that is not its answer is discarded (R136). -/
def takeCommandEnd (p : Command → Bool) (finish : ChamberNo → AddrNo → Bool → State → State) (e : TxnEnd) (s : State) :
    State :=
  match s.commandTurn p with
  | none => s
  | some (c, a, cmd) =>
    match e with
    | .failed => finish c a false s
    | .answered frame => if answersBare a cmd.code frame then finish c a true s else s

/-- The end of the transaction in progress as failed, by its kind. -/
def failTransaction (s : State) : State :=
  match s.turnKind with
  | some (.command c a) =>
    match (s.slot c).sending with
    | some (.unlock _) => endUnlock c a false s
    | some (.deny _) => endDeny c a false s
    | some .lock => endLock c a false s
    | some .release => endRelease c a false s
    | none => s
  | some (.measure st a) => endMeasure st a false s
  | some (.read _ a) => endReadFailed a s
  | some (.assign a) => endAssign a false s
  | some (.status a) => endStatusFailed a s
  | some (.bindStatus a) => endBindingFailed a s
  | _ => s

/-- The turn is a transaction (R135). -/
def TurnKind.isTransaction : TurnKind → Bool
  | .command _ _ | .measure _ _ | .read _ _ | .assign _ | .status _ | .bindStatus _ => true
  | .query | .contend | .censusOpen | .dormantCast | .dropAddress => false

/-- The response window ends without an answer (R138): the same frame is sent once more, under the response window as it
stands now; after the repeat, the transaction ends failed. -/
def takeExpiry (s : State) : State :=
  match s.main.line.turn with
  | none => s
  | some t =>
    if t.kind.isTransaction then
      if t.repeated then failTransaction s
      else s.setTurn (some { t with repeated := true, windowMs := s.ret.settings.responseWindow })
    else s

/-- The end of a MEASURE transaction. -/
def takeMeasureEnd (e : TxnEnd) (s : State) : State :=
  match s.turnKind with
  | some (.measure st a) =>
    match e with
    | .failed => endMeasure st a false s
    | .answered frame => if answersBare a codeMeasure frame then endMeasure st a true s else s
  | _ => s

/-- The end of an ATTN_READ transaction. -/
def takeReadEnd (e : TxnEnd) (s : State) : State :=
  match s.turnKind with
  | some (.read cls a) =>
    match e with
    | .failed => endReadFailed a s
    | .answered frame =>
      match (answerPayload a codeRead frame).bind (readAnswer cls) with
      | some r => endReadAnswered a r s
      | none => s
  | _ => s

/-- The end of an ASSIGN transaction: it is answered from the address it gives (R136, R149). -/
def takeAssignEnd (e : TxnEnd) (s : State) : State :=
  match s.turnKind with
  | some (.assign a) =>
    match e with
    | .failed => endAssign a false s
    | .answered frame => if answersBare a codeAssign frame then endAssign a true s else s
  | _ => s

/-- The end of a census STATUS transaction. -/
def takeStatusEnd (e : StatusEnd) (s : State) : State :=
  match s.turnKind with
  | some (.status a) =>
    match e with
    | .failed => endStatusFailed a s
    | .answered frame reports =>
      match statusAnswer a frame reports s with
      | some ans => endStatusAnswered a ans s
      | none => s
  | _ => s

/-- The end of a binding STATUS transaction. -/
def takeBindingEnd (e : StatusEnd) (s : State) : State :=
  match s.turnKind with
  | some (.bindStatus a) =>
    match e with
    | .failed => endBindingFailed a s
    | .answered frame reports =>
      match statusAnswer a frame reports s with
      | some ans => endBindingAnswered a ans s
      | none => s
  | _ => s

/-! ## Windows and broadcasts -/

/-- Ends a contention or broadcast turn of a kind with its effect (R135). -/
def endCast (k : TurnKind) (f : State → State) (s : State) : State :=
  if s.turnKind = some k then settle (freeLine (f s)) else s

/-- The CENSUS_OPEN frame has been sent (R147). -/
def censusOpened (s : State) : State :=
  nextStep .contend (s.onLine fun l => { l with withheld := Vector.replicate 16 false })

/-- The DORMANT frame has been sent (R166). Where the preparation was abandoned while the frame was on the line, the line
only becomes free (DEDUCED, assumption log entry 15); where another preparation has begun meanwhile, the frame's end takes
the line to DORMANT in it (DESIGN CHOICE, entry 43). -/
def dormantReached (s : State) : State :=
  if s.main.line.power.state = .preparing then
    (changePower .dormant .sweepDone s).onPower fun w =>
      { w with lpw := .keepAlive, dormant := some (s.deadlineIn s.ret.settings.dormantLimit) }
  else s

/-! ## The commands -/

/-- LINE_FRAME_DISCARD (R136): a discarded frame changes no state and posts no notice. -/
def execLineFrameDiscard (_bytes : List Byte) (s : State) : Host.Outcome State Fault Refusal := .next s

/-- RESPONSE_WINDOW_EXPIRY (R138). -/
def execResponseWindowExpiry (s : State) : Host.Outcome State Fault Refusal := whilePowered takeExpiry s

/-- UNLOCK_END (R90). -/
def execUnlockEnd (e : TxnEnd) (s : State) : Host.Outcome State Fault Refusal :=
  whilePowered (takeCommandEnd isUnlock endUnlock e) s

/-- DENY_END (R13). -/
def execDenyEnd (e : TxnEnd) (s : State) : Host.Outcome State Fault Refusal :=
  whilePowered (takeCommandEnd isDeny endDeny e) s

/-- LOCK_END (R123). -/
def execLockEnd (e : TxnEnd) (s : State) : Host.Outcome State Fault Refusal :=
  whilePowered (takeCommandEnd (· = .lock) endLock e) s

/-- RELEASE_END (R127). -/
def execReleaseEnd (e : TxnEnd) (s : State) : Host.Outcome State Fault Refusal :=
  whilePowered (takeCommandEnd (· = .release) endRelease e) s

/-- MEASURE_END (R46). -/
def execMeasureEnd (e : TxnEnd) (s : State) : Host.Outcome State Fault Refusal := whilePowered (takeMeasureEnd e) s

/-- ATTN_READ_END (R159, R160). -/
def execAttnReadEnd (e : TxnEnd) (s : State) : Host.Outcome State Fault Refusal := whilePowered (takeReadEnd e) s

/-- ASSIGN_END (R149). -/
def execAssignEnd (e : TxnEnd) (s : State) : Host.Outcome State Fault Refusal := whilePowered (takeAssignEnd e) s

/-- STATUS_END (R150). -/
def execStatusEnd (e : StatusEnd) (s : State) : Host.Outcome State Fault Refusal := whilePowered (takeStatusEnd e) s

/-- BINDING_STATUS_END (R153). -/
def execBindingStatusEnd (e : StatusEnd) (s : State) : Host.Outcome State Fault Refusal := whilePowered (takeBindingEnd e) s

/-- ATTN_QUERY_WINDOW (R157). -/
def execAttnQueryWindow (presence : Bool) (word : Byte) (s : State) : Host.Outcome State Fault Refusal :=
  whilePowered (endCast .query (takeQuery presence word)) s

/-- CONTEND_WINDOW (R148). -/
def execContendWindow (presence : Bool) (serial : Serial) (s : State) : Host.Outcome State Fault Refusal :=
  whilePowered (endCast .contend (takeContend presence serial)) s

/-- CENSUS_OPEN_SENT (R147). -/
def execCensusOpenSent (s : State) : Host.Outcome State Fault Refusal := whilePowered (endCast .censusOpen censusOpened) s

/-- DORMANT_SENT (R166). -/
def execDormantSent (s : State) : Host.Outcome State Fault Refusal := whilePowered (endCast .dormantCast dormantReached) s

/-- DROP_ADDRESS_SENT (R154): the line becomes free for the census. -/
def execDropAddressSent (s : State) : Host.Outcome State Fault Refusal := whilePowered (endCast .dropAddress id) s

end Sys2Proof.Machine
end

