-- ==== Sys2Proof/Machine/DeadlineEvents.lean ====
section
/-! DEFINITION. The events of the part's deadlines and of the line's power (Chapters 3, 5, 7, 8 and 9). The command of a
deadline says that the deadline is reached: the seconds left to it pass first (DESIGN CHOICE, assumption log entry 6). Where no such
deadline stands, the command changes nothing. -/

namespace Sys2Proof.Machine

/-- A session's guard deadline is reached (R87); it is not taken while a census is RUNNING (R89). -/
def guardReached (c : ChamberNo) (s : State) : State :=
  match (s.session c).bind (·.guard) with
  | none => s
  | some d => if s.censusRunning then s else settle (closeSession c (some .unconfirmed) true (passTo d s))

/-- An open visit's deadline is reached (R131). -/
def visitReached (st : StationNo) (s : State) : State :=
  match s.visitAt st with
  | none => s
  | some p =>
    match (look s.ret.visits p).bind (·.deadline) with
    | none => s
    | some d => settle (closeVisit p .expired (passTo d s))

/-- A return deadline is reached (R128). -/
def returnReached (c : ChamberNo) (s : State) : State :=
  match look s.main.returns c with
  | none => s
  | some d => settle (returnPassed c (passTo d s))

/-- A WAITING measurement's timeout deadline is reached (R50); it is not taken while a census is RUNNING. -/
def timeoutReached (st : StationNo) (s : State) : State :=
  match look s.main.sched.inflight st with
  | some r =>
    match r.phase with
    | .waiting d => if s.censusRunning then s else settle (measureTimedOut st r (passTo d s))
    | .sending => s
  | none => s

/-- The census period deadline is reached (R146): taken in ACTIVE and PREPARING alone. -/
def periodReached (s : State) : State :=
  match s.main.line.census.period with
  | none => s
  | some d =>
    match s.main.line.power.state with
    | .active | .preparing =>
      settle (requestCensus ((passTo d s).onCensus fun k => { k with period := none }))
    | .dormant | .waking => s

/-- The quiet deadline is reached (R163). -/
def quietReached (s : State) : State :=
  match s.main.line.power.state, s.main.line.power.quiet with
  | .active, some d =>
    let s := passTo d s
    settle (if s.quietSite then enterPreparing .quiet s else setQuiet s)
  | _, _ => s

/-- The dormant deadline is reached (R167). -/
def dormantLimitReached (s : State) : State :=
  match s.main.line.power.state, s.main.line.power.dormant with
  | .dormant, some d => settle (wake .limit (passTo d s))
  | _, _ => s

/-- A dominant level is read on the line (R167): in DORMANT one of at least 1 ms wakes it. -/
def pulseRead (micros : Nat) (s : State) : State :=
  if s.main.line.power.state = .dormant ∧ micros ≥ Config.wakePulseMicros then settle (wake .wakePulse s) else s

/-- The census of a LINE RESET that found the line DORMANT or WAKING is requested where its DROP_ADDRESS is due (R154,
R170). -/
def requestResetCensus (s : State) : State := if s.main.line.dropDue then requestCensus s else s

/-- The line becomes ACTIVE at the settle end (R168): the last cause is kept (R162), and what a LINE RESET left waiting
follows (R154). -/
def lineSettled (s : State) : State :=
  let s := requestResetCensus (changePower .active s.main.line.power.cause s)
  let s := requestSweep (s.onPower fun w => { w with settleMs := none })
  setQuiet (s.onCensus fun k => { k with period := some (s.deadlineIn s.ret.settings.censusPeriod) })

/-- The settle end is reached (R168). -/
def settleReached (s : State) : State := if s.main.line.power.state = .waking then settle (lineSettled s) else s

/-! ## The commands -/

/-- GUARD_DEADLINE (R87). -/
def execGuardDeadline (c : ChamberNo) (s : State) : Host.Outcome State Fault Refusal := whilePowered (guardReached c) s

/-- VISIT_DEADLINE (R131). -/
def execVisitDeadline (st : StationNo) (s : State) : Host.Outcome State Fault Refusal := whilePowered (visitReached st) s

/-- RETURN_DEADLINE (R128). -/
def execReturnDeadline (c : ChamberNo) (s : State) : Host.Outcome State Fault Refusal := whilePowered (returnReached c) s

/-- MEASUREMENT_TIMEOUT (R50). -/
def execMeasurementTimeout (st : StationNo) (s : State) : Host.Outcome State Fault Refusal :=
  whilePowered (timeoutReached st) s

/-- CENSUS_PERIOD_DEADLINE (R146). -/
def execCensusPeriodDeadline (s : State) : Host.Outcome State Fault Refusal := whilePowered periodReached s

/-- QUIET_DEADLINE (R163). -/
def execQuietDeadline (s : State) : Host.Outcome State Fault Refusal := whilePowered quietReached s

/-- DORMANT_DEADLINE (R167). -/
def execDormantDeadline (s : State) : Host.Outcome State Fault Refusal := whilePowered dormantLimitReached s

/-- WAKE_PULSE (R167). -/
def execWakePulse (micros : Nat) (s : State) : Host.Outcome State Fault Refusal := whilePowered (pulseRead micros) s

/-- SETTLE_END (R168). -/
def execSettleEnd (s : State) : Host.Outcome State Fault Refusal := whilePowered settleReached s

end Sys2Proof.Machine
end

