-- ==== Sys2Proof/Machine/SupplyCommands.lean ====
section
/-! DEFINITION. The commands of the supplies, the starts and the clock (Chapter 11). -/

namespace Sys2Proof.Machine

/-- MAIN_POWER_UP (R185): the marker is read, and the part performs the warm start or the cold start. It changes nothing
where main power is present already. -/
def execMainPowerUp (markerGood : Bool) (cut : Option Nat) (s : State) : Host.Outcome State Fault Refusal :=
  .next (if s.vdd then s else if s.marker && markerGood then warmStart .warmPower cut (mainRestored s)
    else coldStart cut (mainRestored s))

/-- WARM_START (R186, R187): after the reply of a PART RESTART has been sent, the restart; while main power is absent and
the marker intact, the warm start of a power-up; otherwise no start is due and nothing changes. -/
def execWarmStart (cut : Option Nat) (s : State) : Host.Outcome State Fault Refusal :=
  .next (if s.vdd then (if s.main.host.restartDue then warmStart .warmRestart cut s else s)
    else if s.marker then warmStart .warmPower cut (mainRestored s) else s)

/-- MAIN_POWER_LOSS (R184). -/
def execMainPowerLoss (s : State) : Host.Outcome State Fault Refusal := .next (if s.vdd then mainLost s else s)

/-- PART_CLOCK_WRAP (R188): the second after 2^32 - 1 passes. It changes nothing where the clock does not stand at
2^32 - 1. -/
def execPartClockWrap (s : State) : Host.Outcome State Fault Refusal :=
  .next (if s.clockRuns && s.now = 0xFFFFFFFF then pass 1 s else s)

/-- BACKUP_SUPPLY_LOSS (R185): it concerns VBK while main power is absent, and changes nothing while it is present. -/
def execBackupSupplyLoss (s : State) : Host.Outcome State Fault Refusal := .next (if s.vdd then s else backupLost s)

end Sys2Proof.Machine
end

