-- ==== Sys2Proof/Machine/HostCommands.lean ====
section
/-! DEFINITION. The commands of the host link: what arrives on HRX and leaves on HTX (R172, R181), and the host's
requests, each the arrival of a well-formed frame of its kind, which the request queue takes up (R174, R175). -/

namespace Sys2Proof.Machine

/-- HOST_FRAME_RECEIVED (R172): the bytes are collected, and each frame that passes the checks is checked as a
request. -/
def execHostFrameReceived (bytes : List Byte) (s : State) : Host.Outcome State Fault Refusal :=
  whilePowered (receiveAll bytes) s

/-- HOST_INTERBYTE_TIMEOUT (R172): the frame is discarded and the receiver hunts. -/
def execHostInterbyteTimeout (s : State) : Host.Outcome State Fault Refusal :=
  whilePowered (fun s => s.onHost fun h => { h with rx := .hunting }) s

/-- TRANSMIT_END (R181). -/
def execTransmitEnd (s : State) : Host.Outcome State Fault Refusal := whilePowered txEnded s

/-- SITE STATUS (R179). -/
def execSiteStatus (tag : Byte) (s : State) : Host.Outcome State Fault Refusal :=
  .next (arrive tag .siteStatus s)

/-- SITE SET (R178). -/
def execSiteSet (tag : Byte) (f : SiteFields) (s : State) : Host.Outcome State Fault Refusal :=
  .next (arrive tag (.siteSet f) s)

/-- PART RESTART (R187). -/
def execPartRestart (tag : Byte) (s : State) : Host.Outcome State Fault Refusal :=
  .next (arrive tag .partRestart s)

/-- CARD PUT (R64). -/
def execCardPut (tag : Byte) (f : CardFields) (s : State) : Host.Outcome State Fault Refusal :=
  .next (arrive tag (.cardPut f) s)

/-- CARD AMEND (R65). -/
def execCardAmend (tag : Byte) (mask : Byte) (f : CardFields) (s : State) : Host.Outcome State Fault Refusal :=
  .next (arrive tag (.cardAmend mask f) s)

/-- CARD GET (R67). -/
def execCardGet (tag : Byte) (card : CardNo) (s : State) : Host.Outcome State Fault Refusal :=
  .next (arrive tag (.cardGet card) s)

/-- CARD REMOVE (R66). -/
def execCardRemove (tag : Byte) (card : CardNo) (s : State) : Host.Outcome State Fault Refusal :=
  .next (arrive tag (.cardRemove card) s)

/-- CARD SCAN (R68). -/
def execCardScan (tag : Byte) (start : BitVec 16) (count : Byte) (s : State) : Host.Outcome State Fault Refusal :=
  .next (arrive tag (.cardScan start count) s)

/-- ACCOUNT PUT (R69). -/
def execAccountPut (tag : Byte) (index : BitVec 16) (f : AccountFields) (s : State) : Host.Outcome State Fault Refusal :=
  .next (arrive tag (.accountPut index f) s)

/-- ACCOUNT AMEND (R70). -/
def execAccountAmend (tag : Byte) (index : BitVec 16) (mask : Byte) (f : AccountFields) (s : State) : Host.Outcome State Fault Refusal :=
  .next (arrive tag (.accountAmend index mask f) s)

/-- ACCOUNT GET (R71). -/
def execAccountGet (tag : Byte) (index : BitVec 16) (s : State) : Host.Outcome State Fault Refusal :=
  .next (arrive tag (.accountGet index) s)

/-- GROUP WRITE (R72). -/
def execGroupWrite (tag : Byte) (f : GroupFields) (s : State) : Host.Outcome State Fault Refusal :=
  .next (arrive tag (.groupWrite f) s)

/-- CLASS PUT (R73). -/
def execClassPut (tag : Byte) (slot : Byte) (f : ClassFields) (s : State) : Host.Outcome State Fault Refusal :=
  .next (arrive tag (.classPut slot f) s)

/-- CLASS GET (R74). -/
def execClassGet (tag : Byte) (slot : Byte) (s : State) : Host.Outcome State Fault Refusal :=
  .next (arrive tag (.classGet slot) s)

/-- CHAMBER SET (R4). -/
def execChamberSet (tag : Byte) (chamber : Byte) (f : ChamberFields) (s : State) : Host.Outcome State Fault Refusal :=
  .next (arrive tag (.chamberSet chamber f) s)

/-- CHAMBER GET (R6). -/
def execChamberGet (tag : Byte) (chamber : Byte) (s : State) : Host.Outcome State Fault Refusal :=
  .next (arrive tag (.chamberGet chamber) s)

/-- CHAMBER CLEAR (R5). -/
def execChamberClear (tag : Byte) (chamber : Byte) (s : State) : Host.Outcome State Fault Refusal :=
  .next (arrive tag (.chamberClear chamber) s)

/-- PROFILE PUT (R16). -/
def execProfilePut (tag : Byte) (profile : Byte) (f : ProfileFields) (s : State) : Host.Outcome State Fault Refusal :=
  .next (arrive tag (.profilePut profile f) s)

/-- PROFILE GET (R16). -/
def execProfileGet (tag : Byte) (profile : Byte) (s : State) : Host.Outcome State Fault Refusal :=
  .next (arrive tag (.profileGet profile) s)

/-- STATION BIND (R15). -/
def execStationBind (tag : Byte) (station : Byte) (serial : Option Serial) (s : State) : Host.Outcome State Fault Refusal :=
  .next (arrive tag (.stationBind station serial) s)

/-- STATION GET (R14). -/
def execStationGet (tag : Byte) (station : Byte) (s : State) : Host.Outcome State Fault Refusal :=
  .next (arrive tag (.stationGet station) s)

/-- ROUND READ (R116). -/
def execRoundRead (tag : Byte) (start count : Byte) (s : State) : Host.Outcome State Fault Refusal :=
  .next (arrive tag (.roundRead start count) s)

/-- ROUND ADD (R117). -/
def execRoundAdd (tag : Byte) (chamber urgency : Byte) (s : State) : Host.Outcome State Fault Refusal :=
  .next (arrive tag (.roundAdd chamber urgency) s)

/-- ROUND DROP (R118). -/
def execRoundDrop (tag : Byte) (chamber : Byte) (s : State) : Host.Outcome State Fault Refusal :=
  .next (arrive tag (.roundDrop chamber) s)

/-- JOURNAL READ (R103). -/
def execJournalRead (tag : Byte) (start : BitVec 16) (count : Byte) (s : State) : Host.Outcome State Fault Refusal :=
  .next (arrive tag (.journalRead start count) s)

/-- JOURNAL RELEASE (R104). -/
def execJournalRelease (tag : Byte) (count : BitVec 16) (expected : Option Seconds) (s : State) : Host.Outcome State Fault Refusal :=
  .next (arrive tag (.journalRelease count expected) s)

/-- LINE CENSUS (R146, R169). -/
def execLineCensus (tag : Byte) (s : State) : Host.Outcome State Fault Refusal :=
  .next (arrive tag .lineCensus s)

/-- LINE SWEEP (R54, R169). -/
def execLineSweep (tag : Byte) (s : State) : Host.Outcome State Fault Refusal :=
  .next (arrive tag .lineSweep s)

/-- LINE DORMANT (R164). -/
def execLineDormant (tag : Byte) (s : State) : Host.Outcome State Fault Refusal :=
  .next (arrive tag .lineDormant s)

/-- LINE WAKE (R169). -/
def execLineWake (tag : Byte) (s : State) : Host.Outcome State Fault Refusal :=
  .next (arrive tag .lineWake s)

/-- LINE RESET (R154, R170). -/
def execLineReset (tag : Byte) (s : State) : Host.Outcome State Fault Refusal :=
  .next (arrive tag .lineReset s)

end Sys2Proof.Machine
end

