-- ==== Sys2Proof/Machine/Dispatch.lean ====
section
/-! DEFINITION. The command set's dispatch: one arm per constructor of `Instr`. -/

namespace Sys2Proof.Machine

def exec (i : Instr) (s : State) : Host.Outcome State Fault Refusal :=
  match i with
  | .mainPowerUp markerGood cut => Sys2Proof.Machine.execMainPowerUp markerGood cut s
  | .warmStart cut => Sys2Proof.Machine.execWarmStart cut s
  | .mainPowerLoss => Sys2Proof.Machine.execMainPowerLoss s
  | .partClockWrap => Sys2Proof.Machine.execPartClockWrap s
  | .hostFrameReceived bytes => Sys2Proof.Machine.execHostFrameReceived bytes s
  | .hostInterbyteTimeout => Sys2Proof.Machine.execHostInterbyteTimeout s
  | .transmitEnd => Sys2Proof.Machine.execTransmitEnd s
  | .siteStatus tag => Sys2Proof.Machine.execSiteStatus tag s
  | .siteSet tag f => Sys2Proof.Machine.execSiteSet tag f s
  | .partRestart tag => Sys2Proof.Machine.execPartRestart tag s
  | .cardPut tag f => Sys2Proof.Machine.execCardPut tag f s
  | .cardAmend tag mask f => Sys2Proof.Machine.execCardAmend tag mask f s
  | .cardGet tag card => Sys2Proof.Machine.execCardGet tag card s
  | .cardRemove tag card => Sys2Proof.Machine.execCardRemove tag card s
  | .cardScan tag start count => Sys2Proof.Machine.execCardScan tag start count s
  | .accountPut tag index f => Sys2Proof.Machine.execAccountPut tag index f s
  | .accountAmend tag index mask f => Sys2Proof.Machine.execAccountAmend tag index mask f s
  | .accountGet tag index => Sys2Proof.Machine.execAccountGet tag index s
  | .groupWrite tag f => Sys2Proof.Machine.execGroupWrite tag f s
  | .classPut tag slot f => Sys2Proof.Machine.execClassPut tag slot f s
  | .classGet tag slot => Sys2Proof.Machine.execClassGet tag slot s
  | .chamberSet tag chamber f => Sys2Proof.Machine.execChamberSet tag chamber f s
  | .chamberGet tag chamber => Sys2Proof.Machine.execChamberGet tag chamber s
  | .chamberClear tag chamber => Sys2Proof.Machine.execChamberClear tag chamber s
  | .profilePut tag profile f => Sys2Proof.Machine.execProfilePut tag profile f s
  | .profileGet tag profile => Sys2Proof.Machine.execProfileGet tag profile s
  | .stationBind tag station serial => Sys2Proof.Machine.execStationBind tag station serial s
  | .stationGet tag station => Sys2Proof.Machine.execStationGet tag station s
  | .roundRead tag start count => Sys2Proof.Machine.execRoundRead tag start count s
  | .roundAdd tag chamber urgency => Sys2Proof.Machine.execRoundAdd tag chamber urgency s
  | .roundDrop tag chamber => Sys2Proof.Machine.execRoundDrop tag chamber s
  | .journalRead tag start count => Sys2Proof.Machine.execJournalRead tag start count s
  | .journalRelease tag count expected => Sys2Proof.Machine.execJournalRelease tag count expected s
  | .lineCensus tag => Sys2Proof.Machine.execLineCensus tag s
  | .lineSweep tag => Sys2Proof.Machine.execLineSweep tag s
  | .lineDormant tag => Sys2Proof.Machine.execLineDormant tag s
  | .lineWake tag => Sys2Proof.Machine.execLineWake tag s
  | .lineReset tag => Sys2Proof.Machine.execLineReset tag s
  | .lineFrameDiscard bytes => Sys2Proof.Machine.execLineFrameDiscard bytes s
  | .responseWindowExpiry => Sys2Proof.Machine.execResponseWindowExpiry s
  | .unlockEnd e => Sys2Proof.Machine.execUnlockEnd e s
  | .denyEnd e => Sys2Proof.Machine.execDenyEnd e s
  | .lockEnd e => Sys2Proof.Machine.execLockEnd e s
  | .releaseEnd e => Sys2Proof.Machine.execReleaseEnd e s
  | .measureEnd e => Sys2Proof.Machine.execMeasureEnd e s
  | .attnReadEnd e => Sys2Proof.Machine.execAttnReadEnd e s
  | .assignEnd e => Sys2Proof.Machine.execAssignEnd e s
  | .statusEnd e => Sys2Proof.Machine.execStatusEnd e s
  | .bindingStatusEnd e => Sys2Proof.Machine.execBindingStatusEnd e s
  | .attnQueryWindow presence word => Sys2Proof.Machine.execAttnQueryWindow presence word s
  | .contendWindow presence serial => Sys2Proof.Machine.execContendWindow presence serial s
  | .censusOpenSent => Sys2Proof.Machine.execCensusOpenSent s
  | .dormantSent => Sys2Proof.Machine.execDormantSent s
  | .dropAddressSent => Sys2Proof.Machine.execDropAddressSent s
  | .guardDeadline chamber => Sys2Proof.Machine.execGuardDeadline chamber s
  | .visitDeadline station => Sys2Proof.Machine.execVisitDeadline station s
  | .returnDeadline chamber => Sys2Proof.Machine.execReturnDeadline chamber s
  | .measurementTimeout station => Sys2Proof.Machine.execMeasurementTimeout station s
  | .censusPeriodDeadline => Sys2Proof.Machine.execCensusPeriodDeadline s
  | .quietDeadline => Sys2Proof.Machine.execQuietDeadline s
  | .dormantDeadline => Sys2Proof.Machine.execDormantDeadline s
  | .wakePulse micros => Sys2Proof.Machine.execWakePulse micros s
  | .settleEnd => Sys2Proof.Machine.execSettleEnd s
  | .backupSupplyLoss => Sys2Proof.Machine.execBackupSupplyLoss s

end Sys2Proof.Machine
end

