-- ==== Sys2Proof/WellFormed.lean ====
section
/-! DEFINITION. Which commands can reach the part: the TAG of a request frame (R172), the length of a byte sequence and
of a pulse. The part refuses by reply, and not here, what a request's fields cannot store (R177). -/

namespace Sys2Proof

/-- The TAG and the request that a host request command carries. -/
def Instr.request : Instr → Option (Byte × Request)
  | .siteStatus tag => some (tag, .siteStatus)
  | .siteSet tag f => some (tag, .siteSet f)
  | .partRestart tag => some (tag, .partRestart)
  | .cardPut tag f => some (tag, .cardPut f)
  | .cardAmend tag mask f => some (tag, .cardAmend mask f)
  | .cardGet tag card => some (tag, .cardGet card)
  | .cardRemove tag card => some (tag, .cardRemove card)
  | .cardScan tag start count => some (tag, .cardScan start count)
  | .accountPut tag index f => some (tag, .accountPut index f)
  | .accountAmend tag index mask f => some (tag, .accountAmend index mask f)
  | .accountGet tag index => some (tag, .accountGet index)
  | .groupWrite tag f => some (tag, .groupWrite f)
  | .classPut tag slot f => some (tag, .classPut slot f)
  | .classGet tag slot => some (tag, .classGet slot)
  | .chamberSet tag chamber f => some (tag, .chamberSet chamber f)
  | .chamberGet tag chamber => some (tag, .chamberGet chamber)
  | .chamberClear tag chamber => some (tag, .chamberClear chamber)
  | .profilePut tag profile f => some (tag, .profilePut profile f)
  | .profileGet tag profile => some (tag, .profileGet profile)
  | .stationBind tag station serial => some (tag, .stationBind station serial)
  | .stationGet tag station => some (tag, .stationGet station)
  | .roundRead tag start count => some (tag, .roundRead start count)
  | .roundAdd tag chamber urgency => some (tag, .roundAdd chamber urgency)
  | .roundDrop tag chamber => some (tag, .roundDrop chamber)
  | .journalRead tag start count => some (tag, .journalRead start count)
  | .journalRelease tag count expected => some (tag, .journalRelease count expected)
  | .lineCensus tag => some (tag, .lineCensus)
  | .lineSweep tag => some (tag, .lineSweep)
  | .lineDormant tag => some (tag, .lineDormant)
  | .lineWake tag => some (tag, .lineWake)
  | .lineReset tag => some (tag, .lineReset)
  | .mainPowerUp _ _ | .warmStart _ | .mainPowerLoss | .partClockWrap | .hostFrameReceived _ | .hostInterbyteTimeout
  | .transmitEnd | .lineFrameDiscard _ | .responseWindowExpiry | .unlockEnd _ | .denyEnd _ | .lockEnd _
  | .releaseEnd _ | .measureEnd _ | .attnReadEnd _ | .assignEnd _ | .statusEnd _ | .bindingStatusEnd _
  | .attnQueryWindow _ _ | .contendWindow _ _ | .censusOpenSent | .dormantSent | .dropAddressSent
  | .guardDeadline _ | .visitDeadline _ | .returnDeadline _ | .measurementTimeout _ | .censusPeriodDeadline
  | .quietDeadline | .dormantDeadline | .wakePulse _ | .settleEnd | .backupSupplyLoss => none

/-- A request frame's TAG is 1..255 (R172). -/
def Instr.tagged (i : Instr) : Bool :=
  match i.request with
  | some (tag, _) => tag ≠ 0
  | none => true

/-- A command that brings bytes or a level brings at least one byte, or one microsecond. -/
def Instr.carries : Instr → Bool
  | .hostFrameReceived bytes | .lineFrameDiscard bytes => !bytes.isEmpty
  | .wakePulse micros => 0 < micros
  | .unlockEnd (.answered frame) | .denyEnd (.answered frame) | .lockEnd (.answered frame)
  | .releaseEnd (.answered frame) | .measureEnd (.answered frame) | .attnReadEnd (.answered frame)
  | .assignEnd (.answered frame) | .statusEnd (.answered frame _) | .bindingStatusEnd (.answered frame _) =>
    !frame.isEmpty
  | _ => true

/-- The command can reach the part. -/
def Instr.wellFormed (i : Instr) : Bool := i.tagged && i.carries

end Sys2Proof
end

