-- ==== Sys2Proof/Safety.lean ====
section
/-! DEFINITION. The terms statements are made in: when a request is taken at once and how its reply stands, the parts of
the state that the start of a turn leaves alone, and the laws of the part that every step keeps. -/

namespace Sys2Proof.Machine

/-! ## Requests -/

/-- A request that arrives now is taken at once: main power is present, no request holds a place of the queue, and no
warm start is due. -/
def Ready (s : State) : Prop :=
  s.vdd = true ∧ s.main.host.queue = [] ∧ s.main.host.reply = none ∧ s.main.host.restartDue = false

/-- The state with the request in the one place of the queue, and its reply ready: on HTX where the transmitter was free,
waiting otherwise (R175, R181). -/
def replied (tag : Byte) (r : Request) (rep : Reply) (s : State) : State :=
  let f := replyFrame (requestKind r) tag rep
  s.onHost fun h =>
    { h with queue := [{ tag := tag, req := r }], reply := some f, tx := some (h.tx.getD (.reply f)) }

/-- The state with the request at the end of the queue. -/
def queued (tag : Byte) (r : Request) (s : State) : State :=
  s.onHost fun h => { h with queue := h.queue ++ [{ tag := tag, req := r }] }

/-! ## Supplies -/

/-- The commands of the supplies and starts. -/
def supplyCommand : Instr → Bool
  | .mainPowerUp _ _ | .warmStart _ | .mainPowerLoss | .backupSupplyLoss => true
  | _ => false

/-- The retained domain counts as known: main power is present, or the retention marker stands (R185). -/
def Known (s : State) : Prop := s.vdd = true ∨ s.marker = true

/-! ## Turns and read-outs -/

/-- The state once the read-out of an address is answered: no attention is won, and the address's toggle is flipped
(R159). -/
def delivered (a : AddrNo) (s : State) : State :=
  s.onLine fun l =>
    { l with attention := { won := none, toggles := put l.attention.toggles a (!look l.attention.toggles a) } }

/-- The state as a record of class 0, 1 or 2 from an address reaches its owner: the quiet deadline is set where the line
is ACTIVE (R159, R163). -/
def heard (a : AddrNo) (s : State) : State :=
  if s.main.line.power.state = .active then setQuiet (delivered a s) else delivered a s

/-- The state with the sending place of a chamber empty (R13). -/
def unsent (c : ChamberNo) (s : State) : State := s.setSlot c { s.slot c with sending := none }

/-- The key stands in the outbox. -/
def posted (k : Key) (s : State) : Prop := ∃ e ∈ s.main.host.outbox, e.key = k

/-- The card number resolves to a card or a GUEST template that passes checks 1 to 3 of R81 at a station, with these
rights, and would open a session of this kind and account (R63, R78). -/
def admits (s : State) (st : StationNo) (n : CardNo) (kind : SessionKind) (rights : FractionSet)
    (account : Option AccountNo) : Prop :=
  n ≠ 0 ∧
    ((∃ k, s.findCard n = some k ∧ k.state = .active ∧ (∀ set, k.scope = some set → set.getLsbD st.val = true) ∧
        kind = .resident ∧ rights = k.rights ∧ account = some k.account) ∨
      (s.findCard n = none ∧ ∃ i, s.firstTemplate n = some i ∧
        (look s.ret.templates i).kind = .guest rights account ∧ kind = .guest))

/-- The record that a session's close appends (R85, R100). -/
def closingRecord (c : ChamberNo) (g : ChamberConfig) (x : Session) (o : JournalOutcome) (s : State) : JournalRecord :=
  { sequence := s.ret.nextSeq, closeTime := s.now, timeValid := !s.ret.clock.unset, card := x.card, kind := x.kind,
    account := x.account, chamber := c, fraction := g.fraction, outcome := o, charged := x.charged && o = .deposit }

/-! ## Deposit steps and threshold evaluation -/

/-- The estimate after one deposit step (R20, R22). -/
def stepped (e : Estimate) : Estimate :=
  { e with count := min 1000 (e.count + 1), fill := min 1000 (e.anchor + min 1000 (e.count + 1) * e.step) }

/-- The access state that threshold evaluation leaves at a fill (R34). -/
def accessAt (g : ChamberConfig) (level : Nat) : Access → Access
  | .opened => if g.full ≤ level then .full else .opened
  | .full => if level < g.full - 50 then .opened else .full
  | other => other

/-- Threshold evaluation of a chamber has run as on the state `y`: the access state, the round list and the candidate flags
are those it gives there (R33 to R36). -/
def evaluated (c : ChamberNo) (g : ChamberConfig) (y x : State) : Prop :=
  x.access c = accessAt g (y.fill c) (y.access c) ∧ x.ret.round = (evaluate c y).ret.round ∧
    x.main.candidates = (evaluate c y).main.candidates

/-! ## The start of a turn -/

/-- The parts of the retained domain that the start of a line turn or of a host frame leaves as they are: all but the
scheduler's two fields of a chamber and the UNLOCK phase of a session (R44, R78). -/
def steadyRetained (r : Retained) : Retained :=
  { r with
    chambers := mapAll (fun ch => { ch with lastAttempt := none, due := false }) r.chambers
    sessions := mapAll (Option.map fun x => { x with phase := if x.phase = .answered then .answered else .posted })
      r.sessions }

/-! ## Laws that every step keeps -/

/-- R180 and R175: the outbox holds no key twice, and neither the request queue nor the busy list holds more than its
four places. -/
def HostLaw (s : State) : Prop :=
  (s.main.host.outbox.map (·.key)).Nodup ∧ s.main.host.queue.length ≤ 4 ∧ s.main.host.busy.length ≤ 4

/-- R10: the posting order names no chamber twice, and names a chamber exactly while its pending place is occupied. -/
def PostingLaw (s : State) : Prop :=
  s.main.posting.Nodup ∧ ∀ c : ChamberNo, c ∈ s.main.posting ↔ (s.slot c).pending.isSome = true

/-- R162: which deadline stands in which power state, and the level LPW selects. -/
def PowerLaw (s : State) : Prop :=
  let w := s.main.line.power
  (w.quiet.isSome = true → w.state = .active) ∧ (w.dormant.isSome = true ↔ w.state = .dormant) ∧
    (w.settleMs.isSome = true ↔ w.state = .waking) ∧ (w.lpw = .keepAlive ↔ w.state = .dormant)

/-- R166 and R144: with main power present, no session and no visit is open in PREPARING or DORMANT, and no turn is in
progress in DORMANT or WAKING. -/
def DormancyLaw (s : State) : Prop :=
  s.vdd = true →
    ((s.main.line.power.state = .preparing ∨ s.main.line.power.state = .dormant) → s.quietSite = true) ∧
    ((s.main.line.power.state = .dormant ∨ s.main.line.power.state = .waking) → s.main.line.turn = none)

/-- R99: from head to tail the sequence numbers rise by 1, and the head sequence plus the record count is the next
sequence number, modulo 2^32. -/
def SequenceLaw (s : State) : Prop :=
  Known s → ∀ i : Nat, (h : i < s.ret.journal.length) →
    s.ret.journal[i].sequence + BitVec.ofNat 32 (s.ret.journal.length - i) = s.ret.nextSeq

/-- R102: journal records plus open sessions never exceed 4096. -/
def RoomLaw (s : State) : Prop := Known s → s.roomTaken ≤ 4096

/-- R111: the round list holds at most 32 entries, no chamber twice, every URGENT entry before every NORMAL one, and no
listed chamber carries the candidate flag. -/
def RoundLaw (s : State) : Prop :=
  Known s →
    s.ret.round.length ≤ 32 ∧ (s.ret.round.map (·.chamber)).Nodup ∧
      s.ret.round.Pairwise (fun a b => b.urgency = .urgent → a.urgency = .urgent) ∧
      ∀ e ∈ s.ret.round, s.candidate e.chamber = false

/-- R20 and R31: every chamber's E is min(1000, A + k S), health is what the two runs give, and A, k and E of an
UNCONFIGURED chamber are 0. -/
def EstimateLaw (s : State) : Prop :=
  Known s → ∀ c : ChamberNo,
    let e := (s.chamber c).estimate
    e.fill = min 1000 (e.anchor + e.count * e.step) ∧ e.health = healthOf e.missRun e.divRun ∧
      ((s.chamber c).config = none → e.anchor = 0 ∧ e.count = 0 ∧ e.fill = 0)

/-- R56: the card table stands in strictly ascending order of card number, card number 0 is not in it, and it holds at
most 8192 records. -/
def CardLaw (s : State) : Prop :=
  Known s →
    s.ret.cards.Pairwise (fun a b => a.number < b.number) ∧ (∀ k ∈ s.ret.cards, k.number ≠ 0) ∧
      s.ret.cards.length ≤ 8192

/-- The open sessions charged to an account. -/
def chargedTo (a : AccountNo) (s : State) : Nat :=
  countWhere (fun o : Option Session => o.any fun x => x.charged && x.account = some a) s.ret.sessions

/-- R59: for every account, held equals the number of open sessions charged to it. -/
def HeldLaw (s : State) : Prop := Known s → ∀ a : AccountNo, (look s.ret.accounts a).held = chargedTo a s

/-- R1: a place of the site map holds a chamber exactly while that chamber is configured with that station and slot. -/
def SiteMapLaw (s : State) : Prop :=
  Known s → ∀ (st : StationNo) (sl : SlotNo) (c : ChamberNo),
    s.mapped st sl = some c ↔ ∃ g, (s.chamber c).config = some g ∧ g.station = st ∧ g.slot = sl

/-- R1: a chamber is UNCONFIGURED exactly while its configuration is absent. -/
def AccessLaw (s : State) : Prop :=
  Known s → ∀ c : ChamberNo, (s.chamber c).config = none ↔ s.access c = .unconfigured

/-- R119: at most one visit is open per station. -/
def VisitLaw (s : State) : Prop :=
  Known s → ∀ (p q : Fin 4) (v w : Visit),
    look s.ret.visits p = some v → look s.ret.visits q = some w → v.station = w.station → p = q

/-- R14: whenever the serial is absent the node state is NOT_BOUND, an address is present only while it is ONLINE, and no
serial is bound to two stations. -/
def StationLaw (s : State) : Prop :=
  Known s → ∀ st : StationNo,
    ((s.station st).serial = none ↔ (s.station st).node = .notBound) ∧
      ((s.station st).node = .online ↔ (s.station st).address.isSome = true) ∧
      ∀ (o : StationNo) (n : Serial), (s.station st).serial = some n → (s.station o).serial = some n → o = st

/-- R140: an entry's station is bound to the entry's serial; a station has an address exactly while the entry of that
address is its own and counts as bound; no two entries hold one serial; and the turns and census steps that will write
the table find it as they left it (R148 to R150, R153). -/
def LineTableLaw (s : State) : Prop :=
  s.vdd = true →
    let k := s.main.line.census
    (∀ (a : AddrNo) (e : LineEntry), s.entry a = some e →
      (∀ st, e.station = some st → (s.station st).serial = some e.serial) ∧
      (e.binding ≠ .none → e.station.isSome = true)) ∧
    (∀ (st : StationNo) (a : AddrNo), (s.station st).address = some a ↔
      ∃ e, s.entry a = some e ∧ e.station = some st ∧ e.binding = .none) ∧
    (∀ (a b : AddrNo) (e f : LineEntry), s.entry a = some e → s.entry b = some f → e.serial = f.serial → a = b) ∧
    (∀ a, s.turnKind = some (.assign a) → k.state = .running ∧ k.next = .assign ∧ k.given = a) ∧
    (∀ a, s.turnKind = some (.status a) → k.state = .running ∧ k.next = .status ∧ k.given = a) ∧
    (∀ a e, s.turnKind = some (.bindStatus a) → s.entry a = some e → e.binding = .onLine) ∧
    (k.state = .running → k.next = .assign →
      s.entry k.given = none ∧ ∀ a e, s.entry a = some e → e.serial ≠ k.serialRead) ∧
    (k.state = .running → k.next = .status → ∀ e, s.entry k.given = some e → e.station = none)

/-! ## Visits that end -/

/-- The visit at a place of the table after a chamber of it took a final phase: closed COMPLETE where every other phase is
final, and open with that phase where one is not (R129). -/
def phaseSettled (p : Fin 4) (v : Visit) (c : ChamberNo) (ph : Phase) (x : State) : Prop :=
  ((∀ i ∈ v.involved, i.chamber ≠ c → i.phase.final = true) → look x.ret.visits p = none ∧
    ∃ m, look x.ret.summaries v.station = some m ∧ m.outcome = .complete ∧ m.crew = v.crew) ∧
  ((∃ i ∈ v.involved, i.chamber ≠ c ∧ i.phase.final = false) →
    ∃ w, look x.ret.visits p = some w ∧ w.phaseOf c = some ph)

/-- The entries of a visit's unfinished chambers, and its summary, after the visit has lost them with their node: WAITING
with the skip count unchanged, and COMPLETE with each of them LEFT (R132). -/
def visitGone (v : Visit) (s x : State) : Prop :=
  (∃ m, look x.ret.summaries v.station = some m ∧ m.crew = v.crew ∧ m.outcome = .complete ∧
    ((v.involved.map (·.chamber)).Nodup → m.unfinished = 0 ∧
      m.left = (v.involved.filter fun i => i.phase = .left || !i.phase.final).length)) ∧
  (RoundLaw s → ∀ i e, i ∈ v.involved → i.phase.final = false → s.roundEntry i.chamber = some e → e.state ≠ .waiting →
    x.roundEntry i.chamber = some { e with state := .waiting })

end Sys2Proof.Machine
end

