-- ==== Sys2Proof/Certificates/Slice0/Obligations.lean ====
section
/-! DEFINITION. The statements for the provers. Each docstring names the rules of spec/ it rests on; where a clause is the
model's own choice, the docstring names the assumption log entry. -/

open Sys2Proof Sys2Proof.Machine

/-! ## The queue and the outcomes -/

/-- The model's frame (a block has no fetch): a step takes the command at the front of the queue and runs it on the state
with the queue's rest. On an empty queue one second passes (DESIGN CHOICE, assumption log entry 1): both counts of R188
rise by 1 where a supply keeps them running. -/
def Obligations.StepRunsTheQueue : Prop :=
  (∀ (c : Instr) (rest : List Instr) (s : State), step { s with pending := c :: rest } = exec c { s with pending := rest }) ∧
  (∀ s : State, s.pending = [] →
    let later : State :=
      { s with ret := { s.ret with clock := { s.ret.clock with part := s.now + 1, elapsed := s.elapsed + 1 } } }
    (s.vdd = true → step s = .next (settle later)) ∧
    (s.vdd = false → s.vbk = true → step s = .next later) ∧
    (s.vdd = false → s.vbk = false → step s = .next s))

/-- Every command answers a next state and leaves the waiting queue alone: no command ends in a fault or a refusal. The two
supplies and the retention marker change by the commands of the supplies and starts alone (R184, R185). Without main power
no other command but the running clock's wrap changes anything: the model's own choice (DESIGN CHOICE, assumption log entry
11, and entry 4 for the requests). -/
def Obligations.CommandsAnswerAndKeepTheSupplies : Prop :=
  ∀ (c : Instr) (s : State), ∃ t, exec c s = .next t ∧ t.pending = s.pending ∧
    (supplyCommand c = false → t.vdd = s.vdd ∧ t.vbk = s.vbk ∧ t.marker = s.marker ∧
      (s.vdd = false → c ≠ .partClockWrap → t = s))

/-! ## Encodings -/

/-- The payload layouts of section 10.5 lose nothing: the payload of every request, read under its KIND and length by
the checks of R174, is that request. -/
def Obligations.RequestPayloadRoundTrip : Prop :=
  ∀ r : Request, checkRequest (requestKind r) (requestPayload r) = .good r

/-- R172, R173, R174: the bytes of a request's frame, with its CRC, arriving at a hunting receiver act exactly as the
request's own command, for every request kind, every payload and every TAG 1..255. That a request's row is the arrival of
its whole frame is the model's own choice (DESIGN CHOICE, assumption log entry 4). -/
def Obligations.RequestFrameActsAsItsRequest : Prop :=
  ∀ (i : Instr) (tag : Byte) (r : Request) (s : State), i.request = some (tag, r) → i.wellFormed = true → s.vdd = true →
    s.main.host.rx = .hunting →
    exec (.hostFrameReceived (hostFrame (requestKind r) tag (requestPayload r))) s = exec i s ∧ ∃ t, exec i s = .next t

/-- R136: a frame formed as the CS64 forms it passes the receiver's checks and carries its ADDR, CMD and payload. With
another SUM byte it does not pass, but for the one case in which both zeros of the ones' complement complete the sum; a
frame whose LEN is above 32 does not pass. -/
def Obligations.LineFrameRoundTrip : Prop :=
  (∀ (addr cmd : Byte) (p : List Byte), p.length ≤ 32 →
    openLineFrame (lineFrame addr cmd p) = some (addr, cmd, p) ∧
    let body := addr :: cmd :: BitVec.ofNat 8 p.length :: p
    ∀ sum : Byte, sum ≠ 0xFF - onesSum body → ¬ (onesSum body = 0xFF ∧ sum = 0xFF) →
      openLineFrame (body ++ [sum]) = none) ∧
  (∀ (addr cmd : Byte) (p : List Byte), 32 < p.length → p.length < 256 → openLineFrame (lineFrame addr cmd p) = none)

/-- R172, R174: what the receiver discards changes no state, by all four causes and while hunting; a good frame of an
unlisted KIND or of a wrong LENGTH puts its busy-class reply in the busy list, or is discarded where that list is full,
and changes nothing else but what the free transmitter then sends. -/
def Obligations.RejectedHostFrames : Prop :=
  ∀ s : State, s.vdd = true →
    (exec .hostInterbyteTimeout s =
      .next { s with main := { s.main with host := { s.main.host with rx := .hunting } } }) ∧
    (s.main.host.rx = .hunting →
      (∀ b : Byte, b ≠ 0x5A → exec (.hostFrameReceived [b]) s = .next s) ∧
      (∀ len : Byte, 248 < len.toNat → exec (.hostFrameReceived [0x5A, len]) s = .next s) ∧
      (∀ (kind tag c1 c0 : Byte) (p : List Byte), p.length ≤ 248 →
        (join16 c1 c0 ≠ crc16 (BitVec.ofNat 8 p.length :: kind :: tag :: p) ∨ tag = 0) →
        exec (.hostFrameReceived (0x5A :: BitVec.ofNat 8 p.length :: kind :: tag :: (p ++ [c1, c0]))) s = .next s) ∧
      (∀ (kind tag : Byte) (p : List Byte), p.length ≤ 248 → tag ≠ 0 →
        (requestLength kind = none →
          exec (.hostFrameReceived (hostFrame kind tag p)) s =
            .next (kickTx (if s.main.host.busy.length < 4 then
              s.onHost fun h => { h with busy := h.busy ++ [replyFrame kind tag (bare .unknownKind)] } else s))) ∧
        (∀ n, requestLength kind = some n → p.length ≠ n →
          exec (.hostFrameReceived (hostFrame kind tag p)) s =
            .next (kickTx (if s.main.host.busy.length < 4 then
              s.onHost fun h => { h with busy := h.busy ++ [replyFrame kind tag (bare .badLength)] } else s)))))

/-! ## The host link -/

/-- R175, R176: a request that finds the queue empty is taken at once, acts whole, and its one reply, with its TAG, is ready
and goes to the transmitter where that is free. One that finds others in the queue waits behind them and is not taken;
where all four places are held it is answered BUSY through the busy list, or discarded with no reply where that list is
full. -/
def Obligations.RequestIsTakenOrWaitsOrIsBusy : Prop :=
  (∀ (i : Instr) (tag : Byte) (r : Request) (s : State), i.request = some (tag, r) → tag ≠ 0 → Ready s →
     exec i s = .next (replied tag r (act r (queued tag r s)).2 (act r (queued tag r s)).1)) ∧
  (∀ (i : Instr) (tag : Byte) (r : Request) (s : State), i.request = some (tag, r) → tag ≠ 0 → s.vdd = true →
     (s.main.host.queue ≠ [] → s.main.host.queue.length < 4 → exec i s = .next (kickTx (queued tag r s))) ∧
     (4 ≤ s.main.host.queue.length → s.main.host.busy.length < 4 →
       exec i s = .next (kickTx
         (s.onHost fun h => { h with busy := h.busy ++ [replyFrame (requestKind r) tag (bare .busy)] }))) ∧
     (4 ≤ s.main.host.queue.length → 4 ≤ s.main.host.busy.length → exec i s = .next (kickTx s)))

/-- R175, R181, R187: when a busy-class reply or a notice has been sent, the free transmitter sends the ready reply, else
the oldest busy-class reply, which leaves the list, else the notice of the key at the head of the outbox, which leaves the
outbox and is built from the state as it stands then, else nothing. When a reply has been sent its request's place is
freed and the next request of the queue is taken. After the reply of a PART RESTART the warm start is due. No request is
taken and no frame begun until it: a request joins the queue, or the busy list where the queue is full, and the end of a
frame frees the transmitter (DEDUCED, assumption log entry 18). -/
def Obligations.TransmitEndServesInOrder : Prop :=
  (∀ s : State, s.vdd = true → s.main.host.restartDue = true → settle s = arbitrate s ∧
     (∀ (i : Instr) (tag : Byte) (r : Request), i.request = some (tag, r) → tag ≠ 0 →
       (s.main.host.queue.length < 4 → exec i s = .next (queued tag r s)) ∧
       (4 ≤ s.main.host.queue.length → s.main.host.busy.length < 4 → exec i s =
         .next (s.onHost fun h => { h with busy := h.busy ++ [replyFrame (requestKind r) tag (bare .busy)] })) ∧
       (4 ≤ s.main.host.queue.length → 4 ≤ s.main.host.busy.length → exec i s = .next s)) ∧
     (∀ f, (s.main.host.tx = some (.busy f) ∨ s.main.host.tx = some (.notice f)) →
       exec .transmitEnd s = .next (s.onHost fun h => { h with tx := none })) ∧
     (s.main.host.tx = none → exec .transmitEnd s = .next s)) ∧
  (∀ (s : State) (f : List Byte), s.vdd = true → (s.main.host.tx = some (.busy f) ∨ s.main.host.tx = some (.notice f)) →
     s.main.host.restartDue = false →
     (∀ g, s.main.host.reply = some g →
       exec .transmitEnd s = .next (s.onHost fun h => { h with tx := some (.reply g) })) ∧
     (∀ g rest, s.main.host.reply = none → s.main.host.busy = g :: rest →
       exec .transmitEnd s = .next (s.onHost fun h => { h with busy := rest, tx := some (.busy g) })) ∧
     (∀ k rest, s.main.host.reply = none → s.main.host.busy = [] → s.main.host.outbox = k :: rest →
       exec .transmitEnd s =
         .next (s.onHost fun h => { h with outbox := rest, tx := some (.notice (noticeFrame s k)) })) ∧
     (s.main.host.reply = none → s.main.host.busy = [] → s.main.host.outbox = [] →
       exec .transmitEnd s = .next (s.onHost fun h => { h with tx := none }))) ∧
  (∀ (s : State) (f : List Byte) (q : Queued) (rest : List Queued), s.vdd = true → s.main.host.tx = some (.reply f) →
     s.main.host.queue = q :: rest → s.main.host.restartDue = false →
     let freed := s.onHost fun h => { h with queue := rest, reply := none, tx := none }
     (q.req = .partRestart →
       exec .transmitEnd s = .next (freed.onHost fun h => { h with restartDue := true })) ∧
     (q.req ≠ .partRestart → rest = [] → exec .transmitEnd s = .next (kickTx freed)) ∧
     (q.req ≠ .partRestart → ∀ n later, rest = n :: later →
       exec .transmitEnd s = .next ((act n.req freed).1.onHost fun h =>
         { h with reply := some (replyFrame (requestKind n.req) n.tag (act n.req freed).2),
                  tx := some (.reply (replyFrame (requestKind n.req) n.tag (act n.req freed).2)) })))

/-! ## Supplies and starts -/

/-- R184, R185, R186, R188: the loss of main power keeps every retained item but the deadlines; the loss of the backup supply
loses the marker, so that the power-up after it is cold whatever the record's check says; a cold start leaves the state
of reset and then serves events; the second after 2^32 - 1 brings the clock to 0 and changes nothing else but the
elapsed count. Main power failing during a cold start leaves the marker lost; failing during a warm start it leaves the
marker intact, and every session still open or closed into its one record. That a cold start leaves exactly State.reset
rests on the model's choice of that state (DESIGN CHOICE, assumption log entries 9 and 10), the cut after a number of stages
on entry 7, and the backup supply's return with main power on entry 38 (DESIGN CHOICE). -/
def Obligations.SuppliesColdStartAndCutStarts : Prop :=
  (∀ s : State,
     (s.vdd = false → ∀ good, s.marker = false ∨ good = false →
       exec (.mainPowerUp good none) s =
         .next (settle { State.reset with pending := s.pending, freeCount := s.freeCount })) ∧
     (s.vdd = true → ∃ t, exec .mainPowerLoss s = .next t ∧ t.vdd = false ∧ t.vbk = s.vbk ∧ t.marker = s.marker ∧
       t.ret = { s.ret with
         sessions := mapAll (Option.map fun x => { x with guard := none }) s.ret.sessions
         visits := mapAll (Option.map fun v => { v with deadline := none }) s.ret.visits }) ∧
     (s.vdd = false → ∃ t, exec .backupSupplyLoss s = .next t ∧ t.vdd = false ∧ t.vbk = false ∧ t.marker = false ∧
       ∀ good, exec (.mainPowerUp good none) t =
         .next (settle { State.reset with pending := t.pending, freeCount := t.freeCount })) ∧
     (s.vdd = true ∨ s.vbk = true → s.now = 0xFFFFFFFF →
       exec .partClockWrap s = .next { s with ret := { s.ret with clock :=
         { part := 0, unset := s.ret.clock.unset, elapsed := s.elapsed + 1 } } })) ∧
  (∀ (s : State) (good : Bool) (n : Nat), s.vdd = false →
     ((s.marker = false ∨ good = false) → n < coldStages.length →
       ∃ t, exec (.mainPowerUp good (some n)) s = .next t ∧ t.vdd = false ∧ t.vbk = true ∧ t.marker = false) ∧
     (s.marker = true → good = true → n < (warmStages .warmPower).length →
       ∃ t, exec (.mainPowerUp good (some n)) s = .next t ∧ t.vdd = false ∧ t.vbk = true ∧ t.marker = true ∧
         t.ret.journal.length + t.openSessions = s.ret.journal.length + s.openSessions ∧ t.ret.cards = s.ret.cards))

/-- R186, R187 with R14, R17, R18, R93, R134: a warm start, at a power-up or after PART RESTART, closes every retained
session into a journal record, makes every configured chamber OFFLINE and due, drops the visits, sets every entry
WAITING, takes the stations' addresses, requests a census, writes the last-start record, and keeps the card store but for
the accounts, the configurations, profiles, settings, summaries and the clock. The model's own: the first turn is an
attention query (DEDUCED, assumption log entry 5), WARM_START performs a power-up's start too (DESIGN CHOICE, entry 7), every
entry is WAITING after the evaluation pass as well (DEDUCED, entry 12), and a restart is due once its reply has been sent
(DEDUCED, entry 18). -/
def Obligations.WarmStartCarriesTheSiteOn : Prop :=
  ∀ (s : State) (cmd : Instr) (kind : StartKind),
    ((s.vdd = false ∧ s.marker = true ∧ kind = .warmPower ∧ (cmd = .mainPowerUp true none ∨ cmd = .warmStart none)) ∨
      (s.vdd = true ∧ s.main.host.restartDue = true ∧ kind = .warmRestart ∧ cmd = .warmStart none)) →
    ∃ t, exec cmd s = .next t ∧ t.vdd = true ∧ t.marker = s.marker ∧
      t.openSessions = 0 ∧ t.ret.journal.length = s.ret.journal.length + s.openSessions ∧
      (∀ c, (t.chamber c).config = (s.chamber c).config ∧ (t.chamber c).liftMark = (s.chamber c).liftMark) ∧
      (∀ c, (s.chamber c).config.isSome = true → t.access c = .offline ∧ (t.chamber c).due = true) ∧
      (∀ p, look t.ret.visits p = none) ∧ (∀ e ∈ t.ret.round, e.state = .waiting) ∧
      (∀ st, (t.station st).serial = (s.station st).serial ∧ (t.station st).slotCount = (s.station st).slotCount ∧
        (t.station st).address = none ∧ (t.station st).missRun = 0 ∧
        (t.station st).node = if (s.station st).serial.isSome then .offline else .notBound) ∧
      t.ret.cards = s.ret.cards ∧ t.ret.templates = s.ret.templates ∧ t.ret.profiles = s.ret.profiles ∧
      t.ret.settings = s.ret.settings ∧ t.ret.summaries = s.ret.summaries ∧ t.ret.clock = s.ret.clock ∧
      t.ret.lastStart = { kind := kind, time := s.now } ∧ t.main.line.census.state = .pending ∧
      t.main.line.power.state = .active ∧ t.main.line.power.cause = .start ∧ t.turnKind = some .query ∧
      t.main.host.queue = [] ∧ t.main.host.busy = [] ∧ t.main.host.restartDue = false

/-! ## Card store -/

/-- R64: CARD PUT is refused BAD_VALUE for a card number 0, an account outside 0..2047, a state or a fraction the part does
not define; TABLE_FULL for a new card in a table of 8192 records; otherwise it writes its fields into that card's record,
keeping the last use of a record that was present, and changes no other record. -/
def Obligations.CardPutWritesOneCard : Prop :=
  ∀ (tag : Byte) (f : CardFields) (s : State), tag ≠ 0 → Ready s →
    let bad := f.card = 0 ∨ 2048 ≤ f.account.toNat ∨ 32 ≤ f.rights.toNat ∨ 3 ≤ f.state.toNat
    (bad → exec (.cardPut tag f) s = .next (replied tag (.cardPut f) (bare .badValue) s)) ∧
    (¬ bad → s.findCard f.card = none → 8192 ≤ s.ret.cards.length →
      exec (.cardPut tag f) s = .next (replied tag (.cardPut f) (bare .tableFull) s)) ∧
    (¬ bad → ((s.findCard f.card).isSome = true ∨ s.ret.cards.length < 8192) →
      ∃ (cards : List Card) (k : Card),
        exec (.cardPut tag f) s =
          .next (replied tag (.cardPut f) (bare .ok) { s with ret := { s.ret with cards := cards } }) ∧
        (∀ n, n ≠ f.card → cards.find? (·.number = n) = s.findCard n) ∧
        cards.find? (·.number = f.card) = some k ∧ k.account.val = f.account.toNat ∧ k.rights = f.rights.setWidth 5 ∧
        k.state.code = f.state.toNat ∧ k.scope = f.scope ∧ k.lastUse = (s.findCard f.card).bind (·.lastUse))

/-- R65: CARD AMEND checks the masked values alone, then the card's presence; it replaces each masked field and keeps the
others and the last use. -/
def Obligations.CardAmendWritesMaskedFields : Prop :=
  ∀ (tag mask : Byte) (f : CardFields) (s : State), tag ≠ 0 → Ready s →
    let bad := f.card = 0 ∨ (mask.getLsbD 0 = true ∧ 2048 ≤ f.account.toNat) ∨
      (mask.getLsbD 1 = true ∧ 32 ≤ f.rights.toNat) ∨ (mask.getLsbD 2 = true ∧ 3 ≤ f.state.toNat)
    (bad → exec (.cardAmend tag mask f) s = .next (replied tag (.cardAmend mask f) (bare .badValue) s)) ∧
    (¬ bad → s.findCard f.card = none →
      exec (.cardAmend tag mask f) s = .next (replied tag (.cardAmend mask f) (bare .notFound) s)) ∧
    (¬ bad → ∀ old, s.findCard f.card = some old →
      ∃ (cards : List Card) (k : Card),
        exec (.cardAmend tag mask f) s =
          .next (replied tag (.cardAmend mask f) (bare .ok) { s with ret := { s.ret with cards := cards } }) ∧
        (∀ n, n ≠ f.card → cards.find? (·.number = n) = s.findCard n) ∧
        cards.find? (·.number = f.card) = some k ∧ k.lastUse = old.lastUse ∧
        (if mask.getLsbD 0 then k.account.val = f.account.toNat else k.account = old.account) ∧
        (if mask.getLsbD 1 then k.rights = f.rights.setWidth 5 else k.rights = old.rights) ∧
        (if mask.getLsbD 2 then k.state.code = f.state.toNat else k.state = old.state) ∧
        (k.scope = if mask.getLsbD 3 then f.scope else old.scope))

/-- R66, R67, R68: CARD REMOVE takes the record out; CARD GET carries the record as it stands, or NOT_FOUND with the slot
of the first matching template or 0xFF; CARD SCAN carries up to 1..8 records from its start index with the card count. The
two reads change no state. R68 gives the start as 0..8191: the answer to a start above it is the model's own (DEDUCED,
assumption log entry 29). -/
def Obligations.CardRemoveGetScan : Prop :=
  ∀ (tag : Byte) (s : State), tag ≠ 0 → Ready s →
    (exec (.cardRemove tag 0) s = .next (replied tag (.cardRemove 0) (bare .badValue) s)) ∧
    (exec (.cardGet tag 0) s = .next (replied tag (.cardGet 0) (bare .badValue) s)) ∧
    (∀ n, n ≠ 0 → s.findCard n = none →
      exec (.cardRemove tag n) s = .next (replied tag (.cardRemove n) (bare .notFound) s) ∧
      ((∀ i, (look s.ret.templates i).matches n = false) →
        exec (.cardGet tag n) s =
          .next (replied tag (.cardGet n) { result := .notFound, content := [0xFF] } s)) ∧
      (∀ i : Fin 8, (look s.ret.templates i).matches n = true →
        (∀ j : Fin 8, j < i → (look s.ret.templates j).matches n = false) →
        exec (.cardGet tag n) s =
          .next (replied tag (.cardGet n) { result := .notFound, content := nat8 i.val } s))) ∧
    (∀ n k, n ≠ 0 → s.findCard n = some k →
      exec (.cardRemove tag n) s = .next (replied tag (.cardRemove n) (bare .ok)
        { s with ret := { s.ret with cards := s.ret.cards.filter fun x => x.number ≠ n } }) ∧
      exec (.cardGet tag n) s = .next (replied tag (.cardGet n) { result := .ok, content := cardBytes k } s)) ∧
    (∀ (start : BitVec 16) (count : Byte) (n : Nat), n = max 1 (min 8 count.toNat) →
      let found := (s.ret.cards.drop start.toNat).take n
      exec (.cardScan tag start count) s = .next (replied tag (.cardScan start count)
        { result := if n = count.toNat then .ok else .okClamped,
          content := nat16 s.ret.cards.length ++ nat8 found.length ++ found.flatMap cardBytes } s))

/-- R69, R70: ACCOUNT PUT and ACCOUNT AMEND write one account, clamping the allowance (0xFFFF is UNLIMITED) and the
overdraft, keep held, and change no other account. -/
def Obligations.AccountWritesKeepHeld : Prop :=
  ∀ (tag mask : Byte) (index : BitVec 16) (f : AccountFields) (s : State), tag ≠ 0 → Ready s →
    let allowance : Allowance := if f.allowance = 0xFFFF then .unlimited else .limited (min 9999 f.allowance.toNat)
    let wide := f.allowance ≠ 0xFFFF ∧ 9999 < f.allowance.toNat
    ((2048 ≤ index.toNat ∨ 3 ≤ f.state.toNat) →
      exec (.accountPut tag index f) s = .next (replied tag (.accountPut index f) (bare .badValue) s)) ∧
    ((2048 ≤ index.toNat ∨ (mask.getLsbD 0 = true ∧ 3 ≤ f.state.toNat)) →
      exec (.accountAmend tag index mask f) s =
        .next (replied tag (.accountAmend index mask f) (bare .badValue) s)) ∧
    (∀ a : AccountNo, a.val = index.toNat →
      let old := look s.ret.accounts a
      (f.state.toNat < 3 → ∃ (r : Result) (k : Account), k.state.code = f.state.toNat ∧ k.group = f.group ∧
        k.allowance = allowance ∧ k.overdraft = min 15 f.overdraft.toNat ∧ k.used = f.used.toNat ∧ k.held = old.held ∧
        ((wide ∨ 15 < f.overdraft.toNat) → r = .okClamped) ∧ (¬ (wide ∨ 15 < f.overdraft.toNat) → r = .ok) ∧
        exec (.accountPut tag index f) s = .next (replied tag (.accountPut index f) (bare r)
          { s with ret := { s.ret with accounts := put s.ret.accounts a k } })) ∧
      ((mask.getLsbD 0 = true → f.state.toNat < 3) → ∃ (r : Result) (k : Account),
        (if mask.getLsbD 0 then k.state.code = f.state.toNat else k.state = old.state) ∧
        (k.group = if mask.getLsbD 1 then f.group else old.group) ∧
        (k.allowance = if mask.getLsbD 2 then allowance else old.allowance) ∧
        (k.overdraft = if mask.getLsbD 3 then min 15 f.overdraft.toNat else old.overdraft) ∧
        (k.used = if mask.getLsbD 4 then f.used.toNat else old.used) ∧ k.held = old.held ∧
        (((mask.getLsbD 2 = true ∧ wide) ∨ (mask.getLsbD 3 = true ∧ 15 < f.overdraft.toNat)) → r = .okClamped) ∧
        (¬ ((mask.getLsbD 2 = true ∧ wide) ∨ (mask.getLsbD 3 = true ∧ 15 < f.overdraft.toNat)) → r = .ok) ∧
        exec (.accountAmend tag index mask f) s = .next (replied tag (.accountAmend index mask f) (bare r)
          { s with ret := { s.ret with accounts := put s.ret.accounts a k } })))

/-- R71: ACCOUNT GET refuses an index outside 0..2047 and otherwise carries the whole record, held included; it changes no
state beyond the host link's reply. -/
def Obligations.AccountGetReadsTheRecord : Prop :=
  ∀ (tag : Byte) (index : BitVec 16) (s : State), tag ≠ 0 → Ready s →
    (2048 ≤ index.toNat → exec (.accountGet tag index) s = .next (replied tag (.accountGet index) (bare .badValue) s)) ∧
    (∀ a : AccountNo, a.val = index.toNat →
      exec (.accountGet tag index) s =
        .next (replied tag (.accountGet index) { result := .ok, content := accountBytes (look s.ret.accounts a) } s))

/-- R72: GROUP WRITE writes its masked fields to exactly the accounts whose group bits equal the group value under the group
mask, keeps group and held on every account, and reports how many matched. -/
def Obligations.GroupWriteWritesMatchingAccounts : Prop :=
  ∀ (tag : Byte) (f : GroupFields) (s : State), tag ≠ 0 → Ready s →
    let isIn (a : AccountNo) : Prop :=
      ∀ b < 8, f.groupMask.getLsbD b = true → (look s.ret.accounts a).group.getLsbD b = f.value.getLsbD b
    let allowance : Allowance := if f.allowance = 0xFFFF then .unlimited else .limited (min 9999 f.allowance.toNat)
    let clamped := (f.fieldMask.getLsbD 1 = true ∧ f.allowance ≠ 0xFFFF ∧ 9999 < f.allowance.toNat) ∨
      (f.fieldMask.getLsbD 2 = true ∧ 15 < f.overdraft.toNat)
    (f.fieldMask.getLsbD 0 = true → 3 ≤ f.state.toNat →
      exec (.groupWrite tag f) s = .next (replied tag (.groupWrite f) (bare .badValue) s)) ∧
    ((f.fieldMask.getLsbD 0 = true → f.state.toNat < 3) →
      ∃ (r : Result) (accounts : Vector Account 2048) (matched : List AccountNo),
        exec (.groupWrite tag f) s = .next (replied tag (.groupWrite f) { result := r, content := nat16 matched.length }
          { s with ret := { s.ret with accounts := accounts } }) ∧
        matched.Nodup ∧ (∀ a, a ∈ matched ↔ isIn a) ∧ (clamped → r = .okClamped) ∧ (¬ clamped → r = .ok) ∧
        (∀ a, ¬ isIn a → look accounts a = look s.ret.accounts a) ∧
        (∀ a, isIn a →
          let old := look s.ret.accounts a
          let k := look accounts a
          k.group = old.group ∧ k.held = old.held ∧
          (if f.fieldMask.getLsbD 0 then k.state.code = f.state.toNat else k.state = old.state) ∧
          (k.allowance = if f.fieldMask.getLsbD 1 then allowance else old.allowance) ∧
          (k.overdraft = if f.fieldMask.getLsbD 2 then min 15 f.overdraft.toNat else old.overdraft) ∧
          (k.used = if f.fieldMask.getLsbD 3 then f.used.toNat else old.used)))

/-- R61, R73, R74: CLASS PUT refuses a slot outside 0..7, an unknown kind, and fields of the kind that cannot be stored;
otherwise it replaces the slot whole, its value with every bit outside the mask cleared. CLASS GET carries the template. -/
def Obligations.ClassPutAndGet : Prop :=
  ∀ (tag slot : Byte) (f : ClassFields) (s : State), tag ≠ 0 → Ready s →
    let guestBad := f.kind.toNat = 0 ∧ (32 ≤ f.rights.toNat ∨ ∃ a, f.account = some a ∧ 2048 ≤ a.toNat)
    let crewBad := f.kind.toNat = 1 ∧ 2 ≤ f.mode.toNat
    ((8 ≤ slot.toNat ∨ 2 ≤ f.kind.toNat ∨ guestBad ∨ crewBad) →
      exec (.classPut tag slot f) s = .next (replied tag (.classPut slot f) (bare .badValue) s)) ∧
    (8 ≤ slot.toNat → exec (.classGet tag slot) s = .next (replied tag (.classGet slot) (bare .badValue) s)) ∧
    (∀ i : Fin 8, i.val = slot.toNat →
      exec (.classGet tag slot) s =
        .next (replied tag (.classGet slot) { result := .ok, content := templateBytes (look s.ret.templates i) } s) ∧
      (f.kind.toNat < 2 → ¬ guestBad → ¬ crewBad → ∃ kind,
        (f.kind.toNat = 0 → ∃ account, kind = .guest (f.rights.setWidth 5) account ∧
          account.map (fun a : AccountNo => a.val) = f.account.map (·.toNat)) ∧
        (f.kind.toNat = 1 → ∃ mode : VisitMode, kind = .crew mode ∧ mode.code = f.mode.toNat) ∧
        let x : Template := { enabled := f.enabled, value := f.value &&& f.mask, mask := f.mask, kind := kind }
        exec (.classPut tag slot f) s = .next (replied tag (.classPut slot f) (bare .ok)
          { s with ret := { s.ret with templates := put s.ret.templates i x } })))

/-- R62: which card numbers a template matches, and that the first matching template in slot order is the card's. -/
def Obligations.TemplatesMatchInSlotOrder : Prop :=
  (∀ (t : Template) (n : CardNo),
    t.matches n = true ↔ t.enabled = true ∧ ∀ b < 40, t.mask.getLsbD b = true → n.getLsbD b = t.value.getLsbD b) ∧
  (∀ (s : State) (n : CardNo) (i : Fin 8), s.firstTemplate n = some i ↔
    (look s.ret.templates i).matches n = true ∧ ∀ j : Fin 8, j < i → (look s.ret.templates j).matches n = false) ∧
  (∀ (s : State) (n : CardNo), s.firstTemplate n = none ↔ ∀ i : Fin 8, (look s.ret.templates i).matches n = false)

/-! ## Chambers, stations and profiles -/

/-- R2, R3, R4, R7, R38, R47: CHAMBER SET is checked on its keys, then refused BUSY, and otherwise stores the clamped
configuration, re-anchors the estimate at E with its health derived again, sets the access state by what the chamber was and
what its station serves, rewrites the site map, clears the slot and disturbs the measurement of a moved chamber, gives the
chamber's entry the new fraction before threshold evaluation withdraws or promotes it, makes the chamber due, and keeps the
lift mark. No other chamber changes. -/
def Obligations.ChamberSetConfigures : Prop :=
  ∀ (tag chamber : Byte) (f : ChamberFields) (s : State), tag ≠ 0 → Ready s → SiteMapLaw s →
    let run := exec (.chamberSet tag chamber f) s
    let answer (r : Result) := replied tag (.chamberSet chamber f) (bare r)
    let bad := 64 ≤ chamber.toNat ∨ f.station.toNat = 0 ∨ 16 < f.station.toNat ∨ 4 ≤ f.slot.toNat ∨
      5 ≤ f.fraction.toNat ∨ 8 ≤ f.profile.toNat ∨
      ∃ (st : StationNo) (sl : SlotNo) (o : ChamberNo), st.val + 1 = f.station.toNat ∧ sl.val = f.slot.toNat ∧
        s.mapped st sl = some o ∧ o.val ≠ chamber.toNat
    (bad → run = .next (answer .badValue s)) ∧
    (¬ bad → ∀ c : ChamberNo, c.val = chamber.toNat →
      let busy := (s.session c).isSome = true ∨ s.access c = .locking ∨ s.access c = .locked ∨ s.access c = .lifted
      (busy → run = .next (answer .busy s)) ∧
      (¬ busy → ∃ (x : State) (g : ChamberConfig) (r : Result), run = .next (answer r (arbitrate x)) ∧
        (x.chamber c).config = some g ∧ (x.chamber c).liftMark = (s.chamber c).liftMark ∧ (x.chamber c).due = true ∧
        g.station.val + 1 = f.station.toNat ∧ g.slot.val = f.slot.toNat ∧ g.fraction.code = f.fraction.toNat ∧
        g.profile.val = f.profile.toNat ∧
        g.capacity = max 500 (min 8000 f.capacity.toNat) ∧ g.drum = max 10 (min 120 f.drum.toNat) ∧
        g.clearance = min 600 f.clearance.toNat ∧
        g.depth = max (max 800 (min 4000 f.depth.toNat)) (g.clearance + 500) ∧ g.usable = g.depth - g.clearance ∧
        g.request = max 300 (min 950 f.request.toNat) ∧ g.full = max (g.request + 50) (min 1000 f.full.toNat) ∧
        g.tdown = min 300 f.tdown.toNat ∧ g.minQuality = min 15 f.minQuality.toNat ∧
        g.window = max 10 (min 120 f.window.toNat) ∧ g.interval = max 60 (min 3600 f.interval.toNat) ∧
        (r = .ok ↔ g.capacity = f.capacity.toNat ∧ g.drum = f.drum.toNat ∧ g.depth = f.depth.toNat ∧
          g.clearance = f.clearance.toNat ∧ g.request = f.request.toNat ∧ g.full = f.full.toNat ∧
          g.tdown = f.tdown.toNat ∧ g.minQuality = f.minQuality.toNat ∧ g.window = f.window.toNat ∧
          g.interval = f.interval.toNat) ∧ (r ≠ .ok → r = .okClamped) ∧
        (let e := (x.chamber c).estimate
         let old := (s.chamber c).estimate
         let served := (s.station g.station).node = .online ∧ g.slot.val < (s.station g.station).slotCount
         e.anchor = old.fill ∧ e.count = 0 ∧ e.step = max 1 (min 250 ((g.drum * 1000 + g.capacity / 2) / g.capacity)) ∧
         e.fill = min 1000 old.fill ∧ e.divRun = 0 ∧ e.missRun = old.missRun ∧
         e.health = (if 3 ≤ old.missRun then .silent else .good) ∧
         (∀ i, s.roundEntry c = some i →
           ((i.forced = true ∨ i.state ≠ .waiting ∨ g.request - 50 ≤ e.fill) → x.roundEntry c = some { i with
             fraction := g.fraction,
             urgency := if x.access c = .full ∧ i.state = .waiting then .urgent else i.urgency }) ∧
           (i.forced = false → i.state = .waiting → e.fill < g.request - 50 → s.candidate c = false →
             RoundLaw s → x.roundEntry c = none)) ∧
         (let moved := ∃ o, (s.chamber c).config = some o ∧ (o.station ≠ g.station ∨ o.slot ≠ g.slot)
          let left := x.access c ≠ s.access c ∧ (x.access c = .offline ∨ x.access c = .lifted)
          ∀ st r, look s.main.sched.inflight st = some r →
            (r.chamber = c → (moved ∨ left) → look x.main.sched.inflight st = some { r with disturbed := true }) ∧
            ((r.chamber ≠ c ∨ ¬ (moved ∨ left)) → look x.main.sched.inflight st = some r)) ∧
         (¬ served → x.access c = .offline) ∧
         (served → s.access c = .opened → x.access c = if g.full ≤ e.fill then .full else .opened) ∧
         (served → s.access c = .full → x.access c = if e.fill < g.full - 50 then .opened else .full) ∧
         (served → s.access c ≠ .opened → s.access c ≠ .full →
           x.access c = if (s.chamber c).liftMark.isSome then .lifted else if g.full ≤ e.fill then .full else .opened)) ∧
        x.mapped g.station g.slot = some c ∧
        (∀ o, (s.chamber c).config = some o → (o.station ≠ g.station ∨ o.slot ≠ g.slot) →
          x.mapped o.station o.slot = none ∧ x.slot c = { pending := none, sending := none } ∧ c ∉ x.main.posting) ∧
        posted (.chamber c) x ∧ (∀ o, o ≠ c → x.chamber o = s.chamber o) ∧
        x.ret = { s.ret with chambers := x.ret.chambers, siteMap := x.ret.siteMap, round := x.ret.round }))

/-- R5: CHAMBER CLEAR is refused BUSY as CHAMBER SET is, does nothing to an UNCONFIGURED chamber, and otherwise makes the
chamber UNCONFIGURED with an empty estimate, no lift mark, an empty slot, no entry and no candidate flag, and disturbs its
measurement in flight. No other chamber changes. -/
def Obligations.ChamberClearUnconfigures : Prop :=
  ∀ (tag chamber : Byte) (s : State), tag ≠ 0 → Ready s → AccessLaw s →
    let run := exec (.chamberClear tag chamber) s
    let answer (r : Result) := replied tag (.chamberClear chamber) (bare r)
    (64 ≤ chamber.toNat → run = .next (answer .badValue s)) ∧
    (∀ c : ChamberNo, c.val = chamber.toNat →
      let busy := (s.session c).isSome = true ∨ s.access c = .locking ∨ s.access c = .locked ∨ s.access c = .lifted
      (busy → run = .next (answer .busy s)) ∧
      (¬ busy → (s.chamber c).config = none → run = .next (answer .ok s)) ∧
      (¬ busy → ∀ g, (s.chamber c).config = some g → ∃ x, run = .next (answer .ok (arbitrate x)) ∧
        (x.chamber c).config = none ∧ x.access c = .unconfigured ∧ (x.chamber c).liftMark = none ∧
        (x.chamber c).lastAttempt = none ∧ (x.chamber c).due = false ∧
        (let e := (x.chamber c).estimate
         e.anchor = 0 ∧ e.count = 0 ∧ e.step = 0 ∧ e.fill = 0 ∧ e.divRun = 0 ∧ e.missRun = 0 ∧ e.health = .good ∧
         e.last = none ∧ e.reanchors = (s.chamber c).estimate.reanchors) ∧
        x.mapped g.station g.slot = none ∧ x.slot c = { pending := none, sending := none } ∧ c ∉ x.main.posting ∧
        look x.main.sched.owed c = false ∧ look x.main.returns c = none ∧ x.candidate c = false ∧
        x.roundEntry c = none ∧
        (∀ st r, look s.main.sched.inflight st = some r →
          look x.main.sched.inflight st = some (if r.chamber = c then { r with disturbed := true } else r)) ∧
        posted (.chamber c) x ∧ ((s.roundEntry c).isSome = true → posted .round x) ∧
        (∀ o, o ≠ c → x.chamber o = s.chamber o) ∧
        x.ret = { s.ret with chambers := x.ret.chambers, siteMap := x.ret.siteMap, round := x.ret.round }))

/-- R6, R14, R16, R103, R116, R179: the reads refuse a number outside their range and otherwise carry the record as it
stands, from the start position and for the clamped count; they change nothing but the host link's reply. PART RESTART
answers OK, and its start follows the reply (R187). PROFILE PUT checks the nine points with the profile number, refuses
profile 0, and otherwise replaces the nine points; no estimate changes by it. -/
def Obligations.ReadsAndProfiles : Prop :=
  (∀ (tag b : Byte) (s : State), tag ≠ 0 → Ready s →
     (64 ≤ b.toNat → exec (.chamberGet tag b) s = .next (replied tag (.chamberGet b) (bare .badValue) s)) ∧
     (∀ c : ChamberNo, c.val = b.toNat → exec (.chamberGet tag b) s =
       .next (replied tag (.chamberGet b) { result := .ok, content := chamberReport s c } s)) ∧
     (8 ≤ b.toNat → exec (.profileGet tag b) s = .next (replied tag (.profileGet b) (bare .badValue) s)) ∧
     (∀ p : Fin 8, p.val = b.toNat → exec (.profileGet tag b) s =
       .next (replied tag (.profileGet b) { result := .ok, content := profileBytes (look s.ret.profiles p) } s)) ∧
     ((b.toNat = 0 ∨ 16 < b.toNat) →
       exec (.stationGet tag b) s = .next (replied tag (.stationGet b) (bare .badValue) s)) ∧
     (∀ st : StationNo, st.val + 1 = b.toNat → exec (.stationGet tag b) s =
       .next (replied tag (.stationGet b) { result := .ok, content := stationBytes st (s.station st) } s)) ∧
     (exec (.siteStatus tag) s = .next (replied tag .siteStatus { result := .ok, content := siteStatusBytes s } s)) ∧
     (exec (.partRestart tag) s = .next (replied tag .partRestart (bare .ok) s)) ∧
     (∀ (count : Byte) (n : Nat), n = max 1 (min 16 count.toNat) →
       let found := (s.ret.round.drop b.toNat).take n
       exec (.roundRead tag b count) s = .next (replied tag (.roundRead b count)
         { result := if n = count.toNat then .ok else .okClamped,
           content := nat8 s.ret.round.length ++ nat8 s.candidateCount ++ nat8 found.length ++
             found.flatMap entryBytes } s)) ∧
     (∀ (start : BitVec 16) (count : Byte) (n : Nat), n = max 1 (min 12 count.toNat) →
       let found := (s.ret.journal.drop start.toNat).take n
       exec (.journalRead tag start count) s = .next (replied tag (.journalRead start count)
         { result := if n = count.toNat then .ok else .okClamped,
           content := nat16 s.ret.journal.length ++ nat8 s.openSessions ++ split32 s.headSeq ++ nat8 found.length ++
             found.flatMap journalBytes } s))) ∧
  (∀ (tag profile : Byte) (f : ProfileFields) (s : State), tag ≠ 0 → Ready s →
     let run := exec (.profilePut tag profile f) s
     let answer (r : Result) := replied tag (.profilePut profile f) (bare r)
     let passes := f.p0.toNat = 0 ∧ f.p0.toNat ≤ f.p1.toNat ∧ f.p1.toNat ≤ f.p2.toNat ∧ f.p2.toNat ≤ f.p3.toNat ∧
       f.p3.toNat ≤ f.p4.toNat ∧ f.p4.toNat ≤ f.p5.toNat ∧ f.p5.toNat ≤ f.p6.toNat ∧ f.p6.toNat ≤ f.p7.toNat ∧
       f.p7.toNat ≤ f.p8.toNat ∧ f.p8.toNat = 1000
     ((8 ≤ profile.toNat ∨ ¬ passes) → run = .next (answer .badValue s)) ∧
     (profile = 0 → passes → run = .next (answer .refused s)) ∧
     (∀ p : Fin 8, p.val = profile.toNat → p ≠ 0 → passes →
       let points : Vector Nat 9 := #v[f.p0.toNat, f.p1.toNat, f.p2.toNat, f.p3.toNat, f.p4.toNat, f.p5.toNat, f.p6.toNat,
         f.p7.toNat, f.p8.toNat]
       run = .next (answer .ok { s with ret := { s.ret with profiles := put s.ret.profiles p points } })))

/-- R15, R132, R153: STATION BIND refuses a bad station, serial 0 and a serial of another station; leaves a station that
holds the serial already as it is; and otherwise replaces the serial, with the station without address and its miss run 0.
A station that was ONLINE goes off line first with its chambers, slots, sessions, measurement and visit, whose unfinished
chambers are LEFT with their entries WAITING and their skip counts unchanged, and each session counts its deposit step
(R22); an unbound node that holds the serial gets the station and a binding STATUS, but for the address the census is
about to ask. That the slots of chambers that were OFFLINE before are cleared too is read from R12 (DEDUCED, assumption
log entry 26). -/
def Obligations.StationBindReplacesTheSerial : Prop :=
  ∀ (tag station : Byte) (serial : Option Serial) (s : State), tag ≠ 0 → Ready s → VisitLaw s →
    let run := exec (.stationBind tag station serial) s
    let answer (r : Result) := replied tag (.stationBind station serial) (bare r)
    ((station.toNat = 0 ∨ 16 < station.toNat) → run = .next (answer .badValue s)) ∧
    (∀ st : StationNo, st.val + 1 = station.toNat →
      let bad := serial = some 0 ∨ (serial ≠ none ∧ ∃ o, o ≠ st ∧ (s.station o).serial = serial)
      (bad → run = .next (answer .badValue s)) ∧
      (¬ bad → (s.station st).serial = serial → run = .next (answer .ok s)) ∧
      (¬ bad → (s.station st).serial ≠ serial → ∃ x, run = .next (answer .ok (arbitrate x)) ∧
        (x.station st).serial = serial ∧ (x.station st).address = none ∧ (x.station st).missRun = 0 ∧
        (x.station st).slotCount = (s.station st).slotCount ∧
        (x.station st).node = (if serial.isSome then .offline else .notBound) ∧
        (∀ o, o ≠ st → x.station o = s.station o) ∧
        (∀ b, (s.station st).node = .online → (s.station st).address = some b →
          posted (.node b) x ∧ look x.main.sched.inflight st = none ∧ x.visitAt st = none ∧
          (∀ v, (s.visitAt st).bind (look s.ret.visits) = some v → visitGone v s x ∧ v.station = st) ∧
          ∀ c g, (s.chamber c).config = some g → g.station = st →
            x.access c = .offline ∧ x.session c = none ∧ x.slot c = { pending := none, sending := none } ∧
            (x.chamber c).liftMark = (s.chamber c).liftMark ∧
            (x.chamber c).estimate = if (s.session c).isSome then stepped (s.chamber c).estimate
              else (s.chamber c).estimate) ∧
        ((s.station st).node ≠ .online → x.ret = { s.ret with stations := x.ret.stations }) ∧
        (∀ n a e, serial = some n → s.addressOf n = some a → s.entry a = some e →
          ¬ (s.censusRunning = true ∧ s.main.line.census.next = .status ∧ s.main.line.census.given = a) →
          ∃ e', x.entry a = some e' ∧ e'.serial = n ∧ e'.station = some st ∧ e'.binding = .pending)))

/-! ## Lists -/

/-- R113, R117, R118: ROUND ADD forces a listed entry, promoting it where URGENT is asked, refuses a full list, and
otherwise makes a forced entry and clears the candidate flag. ROUND DROP removes a WAITING entry alone, and the freed
place admits the candidate with the highest E, the lowest number among equals. -/
def Obligations.RoundAddAndDrop : Prop :=
  ∀ (tag chamber urgency : Byte) (s : State), tag ≠ 0 → Ready s → RoundLaw s →
    let add := exec (.roundAdd tag chamber urgency) s
    let drop := exec (.roundDrop tag chamber) s
    let added (r : Result) := replied tag (.roundAdd chamber urgency) (bare r)
    let dropped (r : Result) := replied tag (.roundDrop chamber) (bare r)
    ((64 ≤ chamber.toNat ∨ 2 ≤ urgency.toNat ∨ ∃ c : ChamberNo, c.val = chamber.toNat ∧ (s.chamber c).config = none) →
      add = .next (added .badValue s)) ∧
    (64 ≤ chamber.toNat → drop = .next (dropped .badValue s)) ∧
    (∀ c : ChamberNo, c.val = chamber.toNat →
      (∀ g, (s.chamber c).config = some g → urgency.toNat < 2 →
        (∀ e, s.roundEntry c = some e → ∃ x, add = .next (added .ok x) ∧
          x.roundEntry c = some { e with forced := true, urgency := if urgency.toNat = 1 then .urgent else e.urgency } ∧
          (∀ o, o ≠ c → x.roundEntry o = s.roundEntry o) ∧ x.ret = { s.ret with round := x.ret.round } ∧
          x.main.candidates = s.main.candidates) ∧
        (s.roundEntry c = none → 32 ≤ s.ret.round.length → add = .next (added .listFull s)) ∧
        (s.roundEntry c = none → s.ret.round.length < 32 → ∃ x, add = .next (added .ok x) ∧
          x.roundEntry c = some {
            chamber := c, fraction := g.fraction, fill := s.fill c, entered := s.now,
            urgency := if urgency.toNat = 1 ∨ s.access c = .full then .urgent else .normal,
            forced := true, state := s.entryState c, skips := 0 } ∧
          (∀ o, o ≠ c → x.roundEntry o = s.roundEntry o) ∧ x.ret = { s.ret with round := x.ret.round } ∧
          x.main.candidates = put s.main.candidates c false)) ∧
      (s.roundEntry c = none → drop = .next (dropped .notFound s)) ∧
      (∀ e, s.roundEntry c = some e →
        (e.state ≠ .waiting → drop = .next (dropped .refused s)) ∧
        (e.state = .waiting → ∃ x, drop = .next (dropped .ok x) ∧ x.roundEntry c = none ∧
          x.ret = { s.ret with round := x.ret.round } ∧
          ((∀ o, s.candidate o = false) → x.ret.round = s.ret.round.filter (·.chamber ≠ c)) ∧
          (∀ d g, s.candidate d = true → (s.chamber d).config = some g →
            (∀ o, s.candidate o = true → s.fill o ≤ s.fill d ∧ (s.fill o = s.fill d → d ≤ o)) →
            x.candidate d = false ∧ (∀ o, o ≠ d → x.candidate o = s.candidate o) ∧
            x.roundEntry d = some {
              chamber := d, fraction := g.fraction, fill := s.fill d, entered := s.now,
              urgency := if s.access d = .full then .urgent else .normal, forced := false, state := s.entryState d,
              skips := 0 }))))

/-- R104, R106, R107: JOURNAL RELEASE with another head sequence than the journal's is REFUSED and removes nothing;
otherwise it removes the oldest records, no more than there are, and posts (JOURNAL) once where the record count falls
below 3072 or the room taken below 4096. -/
def Obligations.JournalReleaseRemovesTheOldest : Prop :=
  ∀ (tag : Byte) (count : BitVec 16) (expected : Option Seconds) (s : State), tag ≠ 0 → Ready s →
    let run := exec (.journalRelease tag count expected) s
    let report (n : Nat) (s : State) : List Byte :=
      nat16 n ++ nat16 s.ret.journal.length ++ nat8 s.openSessions ++ split32 s.headSeq
    (∀ h, expected = some h → h ≠ s.headSeq → run = .next (replied tag (.journalRelease count expected)
      { result := .refused, content := report 0 s } s)) ∧
    ((expected = none ∨ expected = some s.headSeq) →
      let n := min count.toNat s.ret.journal.length
      let x : State := { s with ret := { s.ret with journal := s.ret.journal.drop n } }
      let crossed := (3072 ≤ s.ret.journal.length ∧ s.ret.journal.length - n < 3072) ∨
        (4096 ≤ s.roomTaken ∧ s.roomTaken - n < 4096)
      let reply : Reply := { result := if n = count.toNat then .ok else .okClamped, content := report n x }
      (crossed → run = .next (replied tag (.journalRelease count expected) reply (post .journal x))) ∧
      (¬ crossed → run = .next (replied tag (.journalRelease count expected) reply x)))

/-! ## Site and line requests -/

/-- R162, R178, R188: SITE SET refuses a charged-fraction set the part does not define, writes exactly the masked settings,
each clamped into its range, and the clock. A written quiet period moves the quiet deadline: 0 removes it, another sets it
afresh in ACTIVE and leaves it as it is in any other power state. -/
def Obligations.SiteSetWritesMaskedSettings : Prop :=
  ∀ (tag : Byte) (f : SiteFields) (s : State), tag ≠ 0 → Ready s →
    let bit (n : Nat) : Bool := f.mask.getLsbD n
    let period := if f.quietPeriod = 0 then 0 else max 60 (min 3600 f.quietPeriod.toNat)
    (bit 0 → 32 ≤ f.charged.toNat → exec (.siteSet tag f) s = .next (replied tag (.siteSet f) (bare .badValue) s)) ∧
    ((bit 0 → f.charged.toNat < 32) → ∃ (r : Result) (g : Settings) (k : Clock) (q : Option Deadline) (x : State),
      x = { s with
        ret := { s.ret with settings := g, clock := k },
        main := { s.main with line := { s.main.line with power := { s.main.line.power with quiet := q } } } } ∧
      exec (.siteSet tag f) s = .next (replied tag (.siteSet f) { result := r, content := settingsBytes x } x) ∧
      (g.charged = if bit 0 then f.charged.setWidth 5 else s.ret.settings.charged) ∧
      (g.responseWindow = if bit 1 then max 5 (min 250 f.window.toNat) else s.ret.settings.responseWindow) ∧
      (g.censusPeriod = if bit 2 then max 10 (min 600 f.censusPeriod.toNat) else s.ret.settings.censusPeriod) ∧
      (g.quietPeriod = if bit 3 then period else s.ret.settings.quietPeriod) ∧
      (g.dormantLimit = if bit 4 then max 60 (min 3600 f.dormantLimit.toNat) else s.ret.settings.dormantLimit) ∧
      (g.visitWindow = if bit 5 then max 300 (min 3600 f.visitWindow.toNat) else s.ret.settings.visitWindow) ∧
      (g.returnLimit = if bit 6 then max 120 (min 1800 f.returnLimit.toNat) else s.ret.settings.returnLimit) ∧
      (k = if bit 7 then { part := f.clock, unset := false, elapsed := s.elapsed } else s.ret.clock) ∧
      (¬ bit 3 → q = s.main.line.power.quiet) ∧ (bit 3 → period = 0 → q = none) ∧
      (bit 3 → period ≠ 0 → s.main.line.power.state = .active → q = some { start := s.elapsed, span := period }) ∧
      (bit 3 → period ≠ 0 → s.main.line.power.state ≠ .active → q = s.main.line.power.quiet) ∧
      (r = .ok ↔ (bit 1 → g.responseWindow = f.window.toNat) ∧ (bit 2 → g.censusPeriod = f.censusPeriod.toNat) ∧
        (bit 3 → g.quietPeriod = f.quietPeriod.toNat) ∧ (bit 4 → g.dormantLimit = f.dormantLimit.toNat) ∧
        (bit 5 → g.visitWindow = f.visitWindow.toNat) ∧ (bit 6 → g.returnLimit = f.returnLimit.toNat)) ∧
      (r ≠ .ok → r = .okClamped))

/-- R164: LINE DORMANT by the power state, with the reply, the power state it carries, and its effect. -/
def Obligations.LineDormantByPowerState : Prop :=
  ∀ (tag : Byte) (s : State), tag ≠ 0 → Ready s →
    let run := exec (.lineDormant tag) s
    let answer (r : Result) (state : PowerState) := replied tag .lineDormant { result := r, content := nat8 state.code }
    let w := s.main.line.power
    let busySite := s.openSessions ≠ 0 ∨ ∃ p, (look s.ret.visits p).isSome = true
    (w.state = .active → busySite → run = .next (answer .refused .active s)) ∧
    (w.state = .active → ¬ busySite → ∃ x, run = .next (answer .ok .preparing (arbitrate x)) ∧
      x.main.line = { s.main.line with power :=
        { w with state := .preparing, cause := .hostDormant, changed := s.now, quiet := none } } ∧ posted .line x ∧
      (∀ c, look x.main.sched.owed c = (look s.main.sched.owed c ||
        ((s.chamber c).config.isSome && (s.access c = .opened || s.access c = .full)))) ∧
      (∀ c, x.chamber c = { s.chamber c with due := (s.chamber c).due || (s.chamber c).config.isSome }) ∧
      x.ret = { s.ret with chambers := x.ret.chambers }) ∧
    (w.state = .preparing → run = .next (answer .ok .preparing s)) ∧
    (w.state = .dormant → run = .next (answer .ok .dormant s)) ∧
    (w.state = .waking → run = .next (answer .refused .waking s))

/-- R54, R146, R165, R167, R169: LINE WAKE, LINE SWEEP and LINE CENSUS by the power state. In DORMANT each wakes the line
with its own cause; LINE WAKE abandons a preparation; LINE SWEEP requests a sweep in ACTIVE and PREPARING; LINE CENSUS is
refused BUSY with its code alone while a census is RUNNING. -/
def Obligations.LineRequestsByPowerState : Prop :=
  ∀ (tag : Byte) (s : State), tag ≠ 0 → Ready s →
    let w := s.main.line.power
    let carries (state : PowerState) : Reply := { result := .ok, content := nat8 state.code }
    let woken (cause : PowerCause) : Power :=
      { w with state := .waking, cause := cause, changed := s.now, dormant := none, lpw := .full, settleMs := some 150 }
    ((w.state = .active ∨ w.state = .waking) →
      exec (.lineWake tag) s = .next (replied tag .lineWake (carries w.state) (arbitrate (queued tag .lineWake s)))) ∧
    (w.state = .preparing → ∃ x, exec (.lineWake tag) s = .next (replied tag .lineWake (carries .active) (arbitrate x)) ∧
      x.ret = s.ret ∧ posted .line x ∧ x.main.line = { s.main.line with power :=
        { w with state := .active, cause := .hostWake, changed := s.now, quiet := x.main.line.power.quiet } } ∧
      x.main.line.power.quiet = if s.ret.settings.quietPeriod = 0 then none
        else some { start := s.elapsed, span := s.ret.settings.quietPeriod }) ∧
    (w.state = .dormant → ∃ x, exec (.lineWake tag) s = .next (replied tag .lineWake (carries .waking) (arbitrate x)) ∧
      x.ret = s.ret ∧ posted .line x ∧ x.main.line = { s.main.line with power := woken .hostWake }) ∧
    ((w.state = .active ∨ w.state = .preparing) → ∃ x,
      exec (.lineSweep tag) s = .next (replied tag .lineSweep
        { result := .ok, content := nat8 w.state.code ++ nat8 x.owedCount } (arbitrate x)) ∧
      x.main.line = s.main.line ∧ x.ret = { s.ret with chambers := x.ret.chambers } ∧
      (∀ c, x.chamber c = { s.chamber c with due := (s.chamber c).due || (s.chamber c).config.isSome }) ∧
      (∀ c, look x.main.sched.owed c = (look s.main.sched.owed c ||
        ((s.chamber c).config.isSome && (s.access c = .opened || s.access c = .full))))) ∧
    (w.state = .dormant → ∃ x, exec (.lineSweep tag) s = .next (replied tag .lineSweep
        { result := .ok, content := nat8 PowerState.waking.code ++ nat8 s.owedCount } (arbitrate x)) ∧
      x.ret = s.ret ∧ posted .line x ∧ x.main.line = { s.main.line with power := woken .hostSweep }) ∧
    (w.state = .waking → exec (.lineSweep tag) s = .next (replied tag .lineSweep
        { result := .ok, content := nat8 PowerState.waking.code ++ nat8 s.owedCount }
        (arbitrate (queued tag .lineSweep s)))) ∧
    (s.main.line.census.state = .running →
      exec (.lineCensus tag) s = .next (replied tag .lineCensus (bare .busy) s)) ∧
    (s.main.line.census.state ≠ .running → ∃ x, x.ret = s.ret ∧
      x.main.line = { s.main.line with
        census := { s.main.line.census with state := .pending }
        power := if w.state = .dormant then woken .hostCensus else w } ∧
      exec (.lineCensus tag) s =
        .next (replied tag .lineCensus (carries (if w.state = .dormant then .waking else w.state)) (arbitrate x)))

/-- R132, R154, R170: LINE RESET abandons the turn and a running census, makes every configured chamber OFFLINE with its
lift mark kept, clears every slot and measurement, closes every session with a record and a deposit step (R22) and every
visit EXPIRED, with the entries of its unfinished chambers WAITING and their skip counts 1 higher, up to 15, but for
LIFTED, and URGENT where the count reaches 3, empties the line address table and the withheld set, takes the stations'
addresses, resets the attention state, makes DROP_ADDRESS the next turn, requests a census in ACTIVE and PREPARING and
leaves it to the return to ACTIVE in DORMANT and WAKING, moves the power state, and posts (LINE) and the (NODE, address)
keys. -/
def Obligations.LineResetClearsTheLine : Prop :=
  ∀ (tag : Byte) (s : State), tag ≠ 0 → Ready s → AccessLaw s → VisitLaw s →
    ∃ x, exec (.lineReset tag) s = .next (replied tag .lineReset (bare .ok) (arbitrate x)) ∧
      x.main.line.turn = none ∧ x.main.line.dropDue = true ∧
      x.main.line.census.state = (
        let k := s.main.line.census.state
        if s.main.line.power.state = .active ∨ s.main.line.power.state = .preparing then .pending
        else if k = .running then .idle else k) ∧
      x.main.line.census.kept = false ∧ x.main.line.attention.won = none ∧
      (∀ a, x.entry a = none ∧ look x.main.line.withheld a = false ∧ look x.main.line.attention.toggles a = false) ∧
      (∀ c, (s.chamber c).config.isSome = true → x.access c = .offline ∧
        (s.access c ≠ .offline → look x.main.sched.owed c = false)) ∧
      (∀ c, (x.chamber c).config = (s.chamber c).config ∧ (x.chamber c).liftMark = (s.chamber c).liftMark ∧
        x.slot c = { pending := none, sending := none } ∧ x.session c = none ∧
        (x.chamber c).estimate = if (s.session c).isSome ∧ (s.chamber c).config.isSome then stepped (s.chamber c).estimate
          else (s.chamber c).estimate) ∧ x.main.posting = [] ∧
      (∀ st, look x.main.sched.inflight st = none ∧ (x.station st).address = none ∧ (x.station st).missRun = 0 ∧
        (x.station st).serial = (s.station st).serial ∧
        ((s.station st).serial.isSome = true → (x.station st).node = .offline)) ∧
      x.ret.journal.length = s.ret.journal.length + s.openSessions ∧
      (∀ p, look x.ret.visits p = none) ∧
      (∀ p v, look s.ret.visits p = some v →
        ∃ m, look x.ret.summaries v.station = some m ∧ m.crew = v.crew ∧ m.outcome = .expired ∧ m.closed = s.now) ∧
      (RoundLaw s → ∀ p v i e, look s.ret.visits p = some v → i ∈ v.involved → i.phase.final = false →
        (v.involved.map (·.chamber)).Nodup →
        (∀ q w, q ≠ p → look s.ret.visits q = some w → ∀ j ∈ w.involved, j.chamber = i.chamber → j.phase.final = true) →
        s.roundEntry i.chamber = some e → e.state ≠ .waiting →
        x.roundEntry i.chamber = some (if i.phase = .lifted then { e with state := .waiting }
          else { e with state := .waiting, skips := min 15 (e.skips + 1),
                        urgency := if e.skips = 2 then .urgent else e.urgency })) ∧
      x.ret.cards = s.ret.cards ∧ x.ret.profiles = s.ret.profiles ∧ x.ret.settings = s.ret.settings ∧
      posted .line x ∧ (∀ a, (s.entry a).isSome = true → posted (.node a) x) ∧
      (s.main.line.power.state = .active → x.main.line.power = { s.main.line.power with
        quiet := if s.ret.settings.quietPeriod = 0 then none
          else some { start := s.elapsed, span := s.ret.settings.quietPeriod } }) ∧
      (s.main.line.power.state = .preparing → x.main.line.power.state = .active ∧ x.main.line.power.cause = .reset) ∧
      (s.main.line.power.state = .dormant → x.main.line.power.state = .waking ∧ x.main.line.power.cause = .reset ∧
        x.main.line.power.lpw = .full) ∧
      (s.main.line.power.state = .waking → x.main.line.power = s.main.line.power)

/-! ## Slots, turns and transactions -/

/-- R10, R11: a command posted to a chamber meets the pending place alone. It is stored in an empty place with the time,
and the chamber joins the posting order at its end; against a pending command it replaces it under the old time and place
in the order, or is discarded, or both are removed, by the table of R11. -/
def Obligations.PostedCommandMeetsThePendingOne : Prop :=
  ∀ (c : ChamberNo) (cmd old : Command) (time : Seconds) (s : State),
    let holding (p : Option (Command × Seconds)) (order : List ChamberNo) : State :=
      { s with main := { s.main with slots := put s.main.slots c { s.slot c with pending := p }, posting := order } }
    ((s.slot c).pending = none → postCommand c cmd s = holding (some (cmd, s.now)) (s.main.posting ++ [c])) ∧
    ((s.slot c).pending = some (old, time) →
      ((isDeny old = true ∨
          ((isUnlock cmd = true ∨ cmd = .lock) ∧ (isUnlock old = true ∨ old = .release))) →
        postCommand c cmd s = holding (some (cmd, time)) s.main.posting) ∧
      ((isDeny cmd = true ∧ isDeny old = false) ∨ (isUnlock cmd = true ∧ old = .lock) ∨ (cmd = .lock ∧ old = .lock) ∨
          (cmd = .release ∧ isUnlock old = true) ∨ (cmd = .release ∧ old = .release) →
        postCommand c cmd s = s) ∧
      (cmd = .release → old = .lock →
        postCommand c cmd s = holding none (s.main.posting.filter (· ≠ c))))

/-- What the start of a line turn and of a host frame leaves alone, whatever the arbiters choose (R10, R44, R78, R144,
R181), and which turn starts on a free line and what it writes (R144). The frame: all of the retained domain but the
scheduler's two fields and a session's POSTED phase, the supplies, the queue and the ready reply, the withheld set, the
attention state, the power record, the candidates, the return deadlines, the serials and stations of the line address
table, and every measurement in flight. A turn in progress is not replaced, and then nothing but the transmitter moves
(R135). The choice: no turn in DORMANT and WAKING; DROP_ADDRESS where it is due (R154); in PREPARING with the six
conditions of R166 the DORMANT broadcast; else the read-out of the won attention (R159); else the first command of the
posting order whose station is ONLINE, those before it discarded unsent (R10), a session's POSTED UNLOCK becoming SENT
(R78), the hatch window of an UNLOCK and the number of a DENY in one byte each after the slot (DEDUCED, assumption log
entry 14); else an attention query, where the turn before was none and no census is RUNNING (R156); else a pending binding
STATUS (R153), a free one among several (DESIGN CHOICE, assumption log entry 3); else the census's next step (R146 to
R150); else the MEASURE of the first due and eligible chamber from the sweep pointer on (R42 to R44); else an attention
query. -/
def Obligations.StartOfATurnLeavesTheRest : Prop :=
  (∀ s : State,
    let t := settle s
    t.pending = s.pending ∧ t.vdd = s.vdd ∧ t.vbk = s.vbk ∧ t.marker = s.marker ∧ steadyRetained t.ret = steadyRetained s.ret ∧
    t.main.host.rx = s.main.host.rx ∧ t.main.host.queue = s.main.host.queue ∧ t.main.host.reply = s.main.host.reply ∧
    t.main.host.restartDue = s.main.host.restartDue ∧ t.main.candidates = s.main.candidates ∧
    t.main.returns = s.main.returns ∧ t.main.line.withheld = s.main.line.withheld ∧
    t.main.line.attention = s.main.line.attention ∧ t.main.line.power = s.main.line.power ∧
    (∀ a, (t.entry a).map (fun e => (e.serial, e.station, e.missRun)) =
      (s.entry a).map fun e => (e.serial, e.station, e.missRun)) ∧
    (∀ st r, look s.main.sched.inflight st = some r → look t.main.sched.inflight st = some r) ∧
    (s.main.line.turn.isSome = true →
      t.main = { s.main with host := t.main.host } ∧ t.ret = s.ret ∧ t.freeCount = s.freeCount)) ∧
  (∀ s : State, PostingLaw s → s.main.line.turn = none →
    let l := s.main.line
    let k := l.census
    let run := arbitrate s
    let begun (kind : TurnKind) (frame : List Byte) (x : State) : State :=
      { x with main := { x.main with line := { x.main.line with
          turn := some { kind := kind, frame := frame, repeated := false, windowMs := s.ret.settings.responseWindow }
          lastQuery := kind = .query } } }
    let query (x : State) : State := begun .query (lineFrame 0 0x08 [0x0F]) x
    let running := k.state = .running
    let waits (a : AddrNo) : Prop := ∃ e, s.entry a = some e ∧ e.binding = .pending
    let settled := (∀ c, look s.main.sched.owed c = false) ∧ (∀ st, look s.main.sched.inflight st = none) ∧
      l.attention.won = none ∧ s.main.posting = [] ∧ k.state = .idle ∧ ∀ a, ¬ waits a
    let reaches (c : ChamberNo) (g : ChamberConfig) (a : AddrNo) : Prop := (s.chamber c).config = some g ∧
      (s.station g.station).node = .online ∧ (s.station g.station).address = some a
    ((l.power.state = .dormant ∨ l.power.state = .waking) → run = s) ∧
    ((l.power.state = .active ∨ l.power.state = .preparing) →
      (l.dropDue = true → run = begun .dropAddress (lineFrame 0 0x21 []) (s.onLine fun l => { l with dropDue := false })) ∧
      (l.dropDue = false → l.power.state = .preparing → settled →
        run = begun .dormantCast (lineFrame 0 0x20 []) s) ∧
      (l.dropDue = false → ¬ (l.power.state = .preparing ∧ settled) →
        (∀ cls a, l.attention.won = some (cls, a) → run = begun (.read cls a)
          (lineFrame (addrByte a) 0x09 (nat8 cls.number ++ [if look l.attention.toggles a then 1 else 0])) s) ∧
        (l.attention.won = none →
          (∀ gone c rest cmd time g a, s.main.posting = gone ++ c :: rest → (∀ o ∈ gone, ∀ h b, ¬ reaches o h b) →
            reaches c g a → (s.slot c).pending = some (cmd, time) →
            let frame : List Byte := match cmd with
              | .unlock w => lineFrame (addrByte a) 0x10 (nat8 g.slot.val ++ nat8 w)
              | .deny d => lineFrame (addrByte a) 0x11 (nat8 g.slot.val ++ nat8 d.number)
              | .lock => lineFrame (addrByte a) 0x12 (nat8 g.slot.val)
              | .release => lineFrame (addrByte a) 0x13 (nat8 g.slot.val)
            ∃ x, run = begun (.command c a) frame x ∧
              x = { s with ret := { s.ret with sessions := x.ret.sessions },
                           main := { s.main with slots := x.main.slots, posting := rest } } ∧
              x.slot c = { pending := none, sending := some cmd } ∧
              (∀ o, o ≠ c → x.slot o = if o ∈ gone then { s.slot o with pending := none } else s.slot o) ∧
              (∀ o, o ≠ c → x.session o = s.session o) ∧
              x.session c = if isUnlock cmd then
                (s.session c).map (fun y => if y.phase = .posted then { y with phase := .sent } else y) else s.session c) ∧
          ((∀ o ∈ s.main.posting, ∀ h b, ¬ reaches o h b) →
            ∃ y, y = { s with main := { s.main with slots := y.main.slots, posting := [] } } ∧
              (∀ o, y.slot o = if o ∈ s.main.posting then { s.slot o with pending := none } else s.slot o) ∧
              let bound (a : AddrNo) (e : LineEntry) (x : State) : State :=
                begun (.bindStatus a) (lineFrame (addrByte a) 0x04 []) (x.setEntry a (some { e with binding := .onLine }))
              (l.lastQuery = false → ¬ running → run = query y) ∧
              ((l.lastQuery = true ∨ running) →
                (∀ a e, s.entry a = some e → e.binding = .pending → (∀ b, waits b → b = a) → run = bound a e y) ∧
                (∀ a b, waits a → waits b → a ≠ b → ∃ d e, s.entry d = some e ∧ e.binding = .pending ∧
                  run = bound d e { y with freeCount := s.freeCount + 1 }) ∧
                ((∀ a, ¬ waits a) →
                  (k.state = .pending → ∃ m : BitVec 16, (∀ a : AddrNo, m.getLsbD a.val = (s.entry a).isSome) ∧
                    run = begun .censusOpen (lineFrame 0 0x01 (split16 m))
                      (y.onCensus fun _ => { k with state := .running, bound := false, next := .contend })) ∧
                  (running → k.next = .contend → run = begun .contend (lineFrame 0 0x02 []) y) ∧
                  (running → k.next = .assign → run = begun (.assign k.given)
                    (lineFrame 0 0x03 (split48 k.serialRead ++ [addrByte k.given])) y) ∧
                  (running → k.next = .status →
                    run = begun (.status k.given) (lineFrame (addrByte k.given) 0x04 []) y) ∧
                  (k.state = .idle →
                    let wanted (c : ChamberNo) (g : ChamberConfig) : Prop := (s.chamber c).config = some g ∧
                      ((s.chamber c).due = true ∨ (s.chamber c).lastAttempt = none ∨
                        ∃ at', (s.chamber c).lastAttempt = some at' ∧ g.interval ≤ (s.elapsed - at').toNat) ∧
                      (s.station g.station).node = .online ∧ (s.access c = .opened ∨ s.access c = .full) ∧
                      s.session c = none ∧ look s.main.sched.inflight g.station = none
                    let after (c : ChamberNo) : Nat := (c.val + 64 - s.main.sched.pointer.val) % 64
                    (∀ c g a, wanted c g → (∀ o h, wanted o h → after c ≤ after o) →
                      (s.station g.station).address = some a →
                      let record : Inflight :=
                        { chamber := c, slot := g.slot, issued := s.now, phase := .sending, disturbed := false }
                      let sched : Scheduler :=
                        { pointer := c + 1, owed := put s.main.sched.owed c false,
                          inflight := put s.main.sched.inflight g.station (some record) }
                      let tried : Chamber := { s.chamber c with lastAttempt := some s.elapsed, due := false }
                      run = begun (.measure g.station a) (lineFrame (addrByte a) 0x18 (nat8 g.slot.val))
                        { y with ret := { s.ret with chambers := put s.ret.chambers c tried },
                                 main := { y.main with sched := sched } }) ∧
                    ((∀ c g, ¬ wanted c g) → run = query y)))))))))

/-- R138: the first window that ends without an answer sends the same frame once more, under the response window as it
stands now, and changes nothing else; the second ends the transaction as its own failed end does. While no transaction
waits for an answer, nothing changes (DESIGN CHOICE, assumption log entry 11). -/
def Obligations.ExpiryRepeatsThenFails : Prop :=
  ∀ s : State, s.vdd = true →
    (∀ t, s.main.line.turn = some t → t.kind.isTransaction = true → t.repeated = false →
      exec .responseWindowExpiry s = .next { s with main := { s.main with line := { s.main.line with
        turn := some { t with repeated := true, windowMs := s.ret.settings.responseWindow } } } }) ∧
    (∀ t, s.main.line.turn = some t → t.kind.isTransaction = true → t.repeated = true →
      (∀ c a, t.kind = .command c a →
        (∀ w, (s.slot c).sending = some (.unlock w) → exec .responseWindowExpiry s = exec (.unlockEnd .failed) s) ∧
        (∀ d, (s.slot c).sending = some (.deny d) → exec .responseWindowExpiry s = exec (.denyEnd .failed) s) ∧
        ((s.slot c).sending = some .lock → exec .responseWindowExpiry s = exec (.lockEnd .failed) s) ∧
        ((s.slot c).sending = some .release → exec .responseWindowExpiry s = exec (.releaseEnd .failed) s)) ∧
      (∀ st a, t.kind = .measure st a → exec .responseWindowExpiry s = exec (.measureEnd .failed) s) ∧
      (∀ k a, t.kind = .read k a → exec .responseWindowExpiry s = exec (.attnReadEnd .failed) s) ∧
      (∀ a, t.kind = .assign a → exec .responseWindowExpiry s = exec (.assignEnd .failed) s) ∧
      (∀ a, t.kind = .status a → exec .responseWindowExpiry s = exec (.statusEnd .failed) s) ∧
      (∀ a, t.kind = .bindStatus a → exec .responseWindowExpiry s = exec (.bindingStatusEnd .failed) s)) ∧
    ((∀ t, s.main.line.turn = some t → t.kind.isTransaction = false) → exec .responseWindowExpiry s = .next s)

/-- R136, R137: LINE_FRAME_DISCARD changes no state, and so does the end of a transaction with a frame that is not its
answer, by its ADDR, its CMD, its LEN, its payload or its SUM; a STATUS answer carries the serial held for the address, a
slot count in 1..4 and four slot report bytes. What those bytes say stands beside them (DESIGN CHOICE, assumption log
entry 13). -/
def Obligations.DiscardedFramesChangeNothing : Prop :=
  ∀ (s : State) (frame : List Byte), exec (.lineFrameDiscard frame) s = .next s ∧ (s.vdd = true →
    (∀ c a, s.turnKind = some (.command c a) →
      (∀ w, (s.slot c).sending = some (.unlock w) → openLineFrame frame ≠ some (addrByte a, 0x90, []) →
        exec (.unlockEnd (.answered frame)) s = .next s) ∧
      (∀ d, (s.slot c).sending = some (.deny d) → openLineFrame frame ≠ some (addrByte a, 0x91, []) →
        exec (.denyEnd (.answered frame)) s = .next s) ∧
      ((s.slot c).sending = some .lock → openLineFrame frame ≠ some (addrByte a, 0x92, []) →
        exec (.lockEnd (.answered frame)) s = .next s) ∧
      ((s.slot c).sending = some .release → openLineFrame frame ≠ some (addrByte a, 0x93, []) →
        exec (.releaseEnd (.answered frame)) s = .next s)) ∧
    (∀ st a, s.turnKind = some (.measure st a) → openLineFrame frame ≠ some (addrByte a, 0x98, []) →
      exec (.measureEnd (.answered frame)) s = .next s) ∧
    (∀ a, s.turnKind = some (.assign a) → openLineFrame frame ≠ some (addrByte a, 0x83, []) →
      exec (.assignEnd (.answered frame)) s = .next s) ∧
    (∀ k a, s.turnKind = some (.read k a) →
      (∀ p, openLineFrame frame = some (addrByte a, 0x89, p) → readAnswer k p = none) →
      exec (.attnReadEnd (.answered frame)) s = .next s) ∧
    (∀ a reports, (s.turnKind = some (.status a) ∨ s.turnKind = some (.bindStatus a)) →
      (∀ (n : Serial) (count r0 r1 r2 r3 : Byte),
        openLineFrame frame = some (addrByte a, 0x84, split48 n ++ [count, r0, r1, r2, r3]) →
        count = 0 ∨ 4 < count.toNat ∨ ∀ e, s.entry a = some e → e.serial ≠ n) →
      exec (.statusEnd (.answered frame reports)) s = .next s ∧
      exec (.bindingStatusEnd (.answered frame reports)) s = .next s))

/-- R132, R139, R141, R142, R143, on a failed DENY, whose owner does nothing: the miss run of the node addressed rises by
1, in the station record for a bound node and in the entry for an unbound one. At 3 a bound node is lost, with its
chambers, its slots, its sessions, its measurement and its visit, whose unfinished chambers are LEFT with their entries
WAITING and their skip counts unchanged, and an unbound one released; either way the address is withheld and (NODE,
address) posted; each session closed so counts its deposit step (R22). An answered transaction sets the miss run to 0.
Then the line is free. That the slots of chambers that were OFFLINE before are cleared too is read from R12 (DEDUCED,
assumption log entry 26). -/
def Obligations.MissRunsAndNodeLoss : Prop :=
  ∀ (s : State) (c : ChamberNo) (a : AddrNo) (d : DenyCode), s.vdd = true → s.turnKind = some (.command c a) →
    (s.slot c).sending = some (.deny d) → VisitLaw s →
    let answered := exec (.denyEnd (.answered (answerFrame a 0x11 []))) s
    let failed := exec (.denyEnd .failed) s
    let ends (x : State) : Host.Outcome State Fault Refusal := .next (settle (freeLine x))
    (s.entry a = none → answered = ends (unsent c s) ∧ failed = ends (unsent c s)) ∧
    (∀ e, s.entry a = some e → (e.station = none ∨ e.binding ≠ .none) →
      answered = ends ((unsent c s).setEntry a (some { e with missRun := 0 })) ∧
      (e.missRun + 1 < 3 → failed = ends ((unsent c s).setEntry a (some { e with missRun := e.missRun + 1 }))) ∧
      (3 ≤ e.missRun + 1 → ∃ x, failed = ends x ∧ x.entry a = none ∧ look x.main.line.withheld a = true ∧
        posted (.node a) x ∧ x.ret = s.ret ∧ (∀ b, b ≠ a → x.entry b = s.entry b))) ∧
    (∀ e st, s.entry a = some e → e.station = some st → e.binding = .none →
      let x := s.station st
      answered = ends ((unsent c s).onStation st fun _ => { x with missRun := 0 }) ∧
      (x.missRun + 1 < 3 → failed = ends ((unsent c s).onStation st fun _ => { x with missRun := x.missRun + 1 })) ∧
      (3 ≤ x.missRun + 1 → ∃ t, failed = ends t ∧ t.entry a = none ∧ look t.main.line.withheld a = true ∧
        posted (.node a) t ∧ t.station st = { x with address := none, node := .offline, missRun := 0 } ∧
        look t.main.sched.inflight st = none ∧ t.visitAt st = none ∧
        (∀ v, (s.visitAt st).bind (look s.ret.visits) = some v →
          visitGone v s t ∧ v.station = st) ∧
        (∀ o g, (s.chamber o).config = some g → g.station = st → t.access o = .offline ∧ t.session o = none ∧
          t.slot o = { pending := none, sending := none } ∧ (t.chamber o).liftMark = (s.chamber o).liftMark ∧
          (t.chamber o).estimate = if (s.session o).isSome then stepped (s.chamber o).estimate
            else (s.chamber o).estimate) ∧
        t.ret.journal.length + t.openSessions = s.ret.journal.length + s.openSessions ∧
        (∀ b, b ≠ a → t.entry b = s.entry b) ∧ (∀ o, o ≠ st → t.station o = s.station o) ∧
        (∀ o g, (s.chamber o).config = some g → g.station ≠ st → t.session o = s.session o)))

/-- R13, R90: the end of an UNLOCK concerns a session whose UNLOCK is SENT: answered, the session is ANSWERED; failed, the
session closes with no journal record, its charged reservation is released and no step is added, and a DRAINING chamber's
drain ends with LOCK posted. In any other case the owner does nothing. -/
def Obligations.UnlockEndForItsSession : Prop :=
  ∀ (s : State) (c : ChamberNo) (a : AddrNo) (w : Nat), s.vdd = true → s.turnKind = some (.command c a) →
    (s.slot c).sending = some (.unlock w) →
    let answered := exec (.unlockEnd (.answered (answerFrame a 0x10 []))) s
    let failed := exec (.unlockEnd .failed) s
    ((∀ x, s.session c = some x → x.phase ≠ .sent) →
      answered = .next (endTurn a true (unsent c s)) ∧ failed = .next (endTurn a false (unsent c s))) ∧
    (∀ x, s.session c = some x → x.phase = .sent →
      answered = .next (endTurn a true ((unsent c s).setSession c (some { x with phase := .answered }))) ∧
      ∃ t, failed = .next (endTurn a false t) ∧ t.session c = none ∧ (∀ o, o ≠ c → t.session o = s.session o) ∧
        t.ret.journal = s.ret.journal ∧ t.ret.nextSeq = s.ret.nextSeq ∧ t.ret.chambers = s.ret.chambers ∧
        t.ret.round = s.ret.round ∧ t.ret.cards = s.ret.cards ∧
        (s.roomTaken = 4096 → posted .journal t) ∧
        (∀ b, x.charged = true → x.account = some b → t.ret.accounts =
          put s.ret.accounts b { look s.ret.accounts b with held := (look s.ret.accounts b).held - 1 }) ∧
        ((x.charged = false ∨ x.account = none) → t.ret.accounts = s.ret.accounts) ∧
        (s.phaseOf c = some .draining → t.phaseOf c = some .locking ∧
          ((s.slot c).pending = none → (t.slot c).pending = some (.lock, s.now))) ∧
        (s.phaseOf c ≠ some .draining → t.ret.visits = s.ret.visits ∧ t.main.slots = (unsent c s).main.slots))

/-- R13, R127: the end of a DENY and the answer of a RELEASE concern no unit. A failed RELEASE posts
ALARM RELEASE_FAILED, and makes a chamber in OPEN or FULL with no session BLOCKED. -/
def Obligations.DenyAndReleaseEnds : Prop :=
  ∀ (s : State) (c : ChamberNo) (a : AddrNo), s.vdd = true → s.turnKind = some (.command c a) →
    (∀ d, (s.slot c).sending = some (.deny d) →
      exec (.denyEnd (.answered (answerFrame a 0x11 []))) s = .next (endTurn a true (unsent c s)) ∧
      exec (.denyEnd .failed) s = .next (endTurn a false (unsent c s))) ∧
    ((s.slot c).sending = some .release →
      exec (.releaseEnd (.answered (answerFrame a 0x13 []))) s = .next (endTurn a true (unsent c s)) ∧
      (¬ ((s.access c = .opened ∨ s.access c = .full) ∧ s.session c = none) →
        exec (.releaseEnd .failed) s = .next (endTurn a false (alarm .releaseFailed c (unsent c s)))) ∧
      ((s.access c = .opened ∨ s.access c = .full) → s.session c = none →
        ∃ x, exec (.releaseEnd .failed) s = .next (endTurn a false x) ∧
          x.ret = { s.ret with chambers := put s.ret.chambers c { s.chamber c with access := .blocked } } ∧
          posted (.alarm .releaseFailed c) x ∧ posted (.chamber c) x ∧ look x.main.sched.owed c = false ∧
          x.main.slots = (unsent c s).main.slots ∧ x.main.line = s.main.line))

/-- R123, R129: the end of a LOCK by the chamber's access state and, for a LOCKING chamber, its phase in the open visit
that works on it (DEDUCED, assumption log entry 37). -/
def Obligations.LockEndByAccessState : Prop :=
  ∀ (s : State) (c : ChamberNo) (a : AddrNo), s.vdd = true → s.turnKind = some (.command c a) →
    (s.slot c).sending = some .lock →
    let answered := exec (.lockEnd (.answered (answerFrame a 0x12 []))) s
    let failed := exec (.lockEnd .failed) s
    (s.access c = .locking → s.phaseOf c = some .locking →
      (∃ x, answered = .next (endTurn a true x) ∧ x.access c = .locked ∧ x.phaseOf c = some .locked ∧
        (∀ time, (x.slot c).pending ≠ some (.lock, time)) ∧ (∀ o, o ≠ c → x.chamber o = s.chamber o) ∧
        x.ret = { s.ret with chambers := x.ret.chambers, visits := x.ret.visits }) ∧
      (∃ x, failed = .next (endTurn a false x) ∧ x.access c = .blocked ∧ posted (.alarm .lockFailed c) x ∧
        (∀ time, (x.slot c).pending ≠ some (.lock, time)) ∧ (∀ o, o ≠ c → x.chamber o = s.chamber o) ∧
        (∀ e, s.roundEntry c = some e → x.roundEntry c = some { e with state := .waiting }) ∧
        ∀ p v, s.visitOf c = some p → look s.ret.visits p = some v →
          (∀ q, q ≠ p → look x.ret.visits q = look s.ret.visits q) ∧
          phaseSettled p v c .blocked x)) ∧
    (s.access c = .locking → s.phaseOf c = some .draining →
      answered = .next (endTurn a true (postCommand c .release (unsent c s))) ∧
      failed = .next (endTurn a false (postCommand c .release (unsent c s)))) ∧
    ((s.access c = .lifted ∨ s.access c = .blocked) →
      answered = .next (endTurn a true (unsent c s)) ∧
      failed = .next (endTurn a false (alarm .lockFailed c (unsent c s)))) ∧
    ((s.access c = .opened ∨ s.access c = .full) →
      answered = .next (endTurn a true (postCommand c .release (unsent c s))) ∧
      failed = .next (endTurn a false (postCommand c .release (unsent c s))))

/-- R31, R46: an answered MEASURE starts the timeout of 3 s; a failed one removes the record and hands the estimator a miss,
unless the measurement was disturbed; with no record, nothing but the turn ends. R49, R50: a WAITING measurement's timeout
ends it with a miss, or with the due mark where it was disturbed; it is not taken while a census is RUNNING. R146: a census
period deadline requests a census in ACTIVE and PREPARING, and is not taken in DORMANT and WAKING. The model's own: the seconds
left to a deadline pass with it (DESIGN CHOICE, assumption log entry 6), a period deadline that is taken is removed (DEDUCED,
entry 25), and nothing happens where no deadline stands (DESIGN CHOICE, entry 11). -/
def Obligations.MeasurementEndsAndPeriodDeadline : Prop :=
  (∀ (s : State) (st : StationNo) (a : AddrNo), s.vdd = true → s.turnKind = some (.measure st a) →
     let answered := exec (.measureEnd (.answered (answerFrame a 0x18 []))) s
     let failed := exec (.measureEnd .failed) s
     (look s.main.sched.inflight st = none →
       answered = .next (endTurn a true s) ∧ failed = .next (endTurn a false s)) ∧
     (∀ r, look s.main.sched.inflight st = some r →
       let e := (s.chamber r.chamber).estimate
       let n := min 3 (e.missRun + 1)
       let h : Health := if n = 3 then .silent else if e.divRun = 0 then .good else .doubtful
       let x := (s.setInflight st none).onEstimate r.chamber fun _ => { e with missRun := n, health := h }
       answered = .next (endTurn a true
         (s.setInflight st (some { r with phase := .waiting { start := s.elapsed, span := 3 } }))) ∧
       (r.disturbed = true → failed = .next (endTurn a false (s.setInflight st none))) ∧
       (r.disturbed = false → h = e.health → failed = .next (endTurn a false x)) ∧
       (r.disturbed = false → h ≠ e.health → failed = .next (endTurn a false (post (.chamber r.chamber) x))))) ∧
  (∀ (s : State) (st : StationNo), s.vdd = true →
     (s.main.line.census.state = .running → exec (.measurementTimeout st) s = .next s) ∧
     ((∀ r d, look s.main.sched.inflight st = some r → r.phase ≠ .waiting d) →
       exec (.measurementTimeout st) s = .next s) ∧
     (∀ r d, look s.main.sched.inflight st = some r → r.phase = .waiting d → s.main.line.census.state ≠ .running →
       let x := (passTo d s).setInflight st none
       let e := (s.chamber r.chamber).estimate
       let n := min 3 (e.missRun + 1)
       let h : Health := if n = 3 then .silent else if e.divRun = 0 then .good else .doubtful
       let missed := x.onEstimate r.chamber fun _ => { e with missRun := n, health := h }
       (r.disturbed = true → (s.chamber r.chamber).config.isSome = true → exec (.measurementTimeout st) s =
         .next (settle (x.onChamber r.chamber fun ch => { ch with due := true }))) ∧
       (r.disturbed = false → exec (.measurementTimeout st) s =
         .next (settle (if h = e.health then missed else post (.chamber r.chamber) missed)))) ∧
     (∀ d, s.main.line.census.period = some d →
       ((s.main.line.power.state = .dormant ∨ s.main.line.power.state = .waking) →
         exec .censusPeriodDeadline s = .next s) ∧
       ((s.main.line.power.state = .active ∨ s.main.line.power.state = .preparing) →
         let k := s.main.line.census
         exec .censusPeriodDeadline s = .next (settle ((passTo d s).onCensus fun _ =>
           if k.state = .running then { k with period := none, kept := true }
           else { k with period := none, state := .pending })))) ∧
     (s.main.line.census.period = none → exec .censusPeriodDeadline s = .next s))

/-! ## Attentions -/

/-- R157, R159, R160, R161, R163: a silent or disturbed query window, or one with an address outside the table, changes
nothing but the free line; otherwise the class and address read are the won attention. An answered read-out clears the won
attention, flips the toggle of its address, sets the quiet deadline for classes 0 to 2 in ACTIVE, and hands the record to
its owner with the station of a bound entry; a failed one leaves both as they are. -/
def Obligations.AttentionsAreWonAndReadOut : Prop :=
  ∀ s : State, s.vdd = true →
    (s.turnKind = some .query → ∀ (presence : Bool) (word : Byte),
      let run := exec (.attnQueryWindow presence word) s
      let silent := presence = false ∨ 4 ≤ word.toNat / 32 ∨ word.toNat % 32 = 0 ∨ 16 < word.toNat % 32 ∨
        ∃ a : AddrNo, a.val + 1 = word.toNat % 32 ∧ s.entry a = none
      (silent → run = .next (settle (freeLine s))) ∧
      (∀ (k : AttnClass) (a : AddrNo), presence = true → k.number = word.toNat / 32 → a.val + 1 = word.toNat % 32 →
        (s.entry a).isSome = true →
        run = .next (settle (freeLine (s.onLine fun l => { l with attention := { l.attention with won := some (k, a) } }))))) ∧
    (∀ (k : AttnClass) (a : AddrNo), s.turnKind = some (.read k a) →
      exec (.attnReadEnd .failed) s = .next (endTurn a false s) ∧
      exec (.attnReadEnd (.answered (answerFrame a 0x09 (nat8 k.number)))) s = .next (endTurn a true (delivered a s)) ∧
      (∀ (sl : SlotNo) (report : Byte), k = .lift →
        exec (.attnReadEnd (.answered (answerFrame a 0x09 [0, BitVec.ofNat 8 sl.val, report]))) s =
          .next (endTurn a true (takeLift (s.handedStation a) sl report (heard a s)))) ∧
      (∀ (sl : SlotNo) (report : Byte), k = .hatch →
        exec (.attnReadEnd (.answered (answerFrame a 0x09 [1, BitVec.ofNat 8 sl.val, report]))) s =
          .next (endTurn a true (takeHatch (s.handedStation a) sl report (heard a s)))) ∧
      (∀ (sl : SlotNo) (n : CardNo), k = .card →
        exec (.attnReadEnd (.answered (answerFrame a 0x09 ([2, BitVec.ofNat 8 sl.val] ++ split40 n)))) s =
          .next (endTurn a true (takeCard (s.handedStation a) sl n (heard a s)))) ∧
      (∀ (sl : SlotNo) (t : BitVec 16) (q temp : Byte), k = .echo →
        exec (.attnReadEnd (.answered (answerFrame a 0x09 ([3, BitVec.ofNat 8 sl.val] ++ split16 t ++ [q, temp])))) s =
          .next (endTurn a true
            (takeEcho (s.handedStation a) sl t.toNat q.toNat temp.toInt (delivered a s)))) ∧
      (s.entry a = none → s.handedStation a = none) ∧
      (∀ e, s.entry a = some e → s.handedStation a = if e.binding = .none then e.station else none))

/-- R57, R78, R79, R81, R82, R47, R165: a card that passes every check, of a RESIDENT or under a GUEST template, opens a
session with the record of R78, reserves one deposit where the grant is charged, records a resident card's last use,
disturbs a measurement in flight on the chamber, posts UNLOCK with the hatch window, and abandons a preparation. Nothing
else of the retained domain changes. -/
def Obligations.CardGrantOpensASession : Prop :=
  ∀ (s : State) (a : AddrNo) (st : StationNo) (sl : SlotNo) (c : ChamberNo) (g : ChamberConfig) (n : CardNo)
    (kind : SessionKind) (rights : FractionSet) (account : Option AccountNo), s.vdd = true →
    s.turnKind = some (.read .card a) → s.handedStation a = some st → s.mapped st sl = some c →
    (s.chamber c).config = some g → admits s st n kind rights account → rights.getLsbD g.fraction.code = true →
    (∀ b, account = some b → (look s.ret.accounts b).state = .opened) → s.access c = .opened → s.session c = none →
    let charged := s.ret.settings.charged.getLsbD g.fraction.code && account.isSome
    (∀ b m, charged = true → account = some b → (look s.ret.accounts b).allowance = .limited m →
      (look s.ret.accounts b).used + (look s.ret.accounts b).held < m + (look s.ret.accounts b).overdraft) →
    s.roomTaken < 4096 →
    ∃ x, exec (.attnReadEnd (.answered (answerFrame a 0x09 ([2, BitVec.ofNat 8 sl.val] ++ split40 n)))) s =
        .next (endTurn a true x) ∧
      x.session c = some { card := n, kind := kind, account := account, charged := charged, granted := s.now,
                           guard := some { start := s.elapsed, span := g.window + 10 }, phase := .posted } ∧
      (∀ o, o ≠ c → x.session o = s.session o) ∧
      (∀ b, charged = true → account = some b → x.ret.accounts =
        put s.ret.accounts b { look s.ret.accounts b with held := (look s.ret.accounts b).held + 1 }) ∧
      (charged = false → x.ret.accounts = s.ret.accounts) ∧
      (∀ k, kind = .resident → s.findCard n = some k →
        x.findCard n = some { k with lastUse := some { station := st, time := s.now } }) ∧
      (kind = .guest → x.ret.cards = s.ret.cards) ∧ (∀ m, m ≠ n → x.findCard m = s.findCard m) ∧
      x.ret = { s.ret with sessions := x.ret.sessions, accounts := x.ret.accounts, cards := x.ret.cards } ∧
      (∀ o r, look s.main.sched.inflight o = some r →
        look x.main.sched.inflight o = some (if r.chamber = c then { r with disturbed := true } else r)) ∧
      ((s.slot c).pending = none → (x.slot c).pending = some (.unlock g.window, s.now)) ∧
      (∀ cmd time, (s.slot c).pending = some (cmd, time) → cmd ≠ .lock →
        (x.slot c).pending = some (.unlock g.window, time)) ∧
      (s.roomTaken = 4095 → posted .journal x) ∧ x.main.line.attention.won = none ∧
      (s.main.line.power.state = .preparing →
        x.main.line.power.state = .active ∧ x.main.line.power.cause = .grant ∧ posted .line x) ∧
      (s.main.line.power.state ≠ .preparing → x.main.line.power.state = s.main.line.power.state)

/-- R80, R81, R83: a presentation that the part refuses posts DENY with the code of the first check that fails, and
ALARM LOST_CARD_SEEN with the card for LOST; it changes nothing else. At an OFFLINE chamber the code is NO_CHAMBER, posted
while the station is ONLINE; with no station or an empty place nothing is posted. -/
def Obligations.CardRefusalsPostTheFirstFailure : Prop :=
  ∀ (s : State) (a : AddrNo) (sl : SlotNo) (n : CardNo), s.vdd = true → s.turnKind = some (.read .card a) →
    let run := exec (.attnReadEnd (.answered (answerFrame a 0x09 ([2, BitVec.ofNat 8 sl.val] ++ split40 n)))) s
    let denies (c : ChamberNo) (d : DenyCode) := run = .next (endTurn a true (postCommand c (.deny d) (heard a s)))
    (s.handedStation a = none → run = .next (endTurn a true (heard a s))) ∧
    (∀ st, s.handedStation a = some st →
      (s.mapped st sl = none → run = .next (endTurn a true (heard a s))) ∧
      (∀ c g, s.mapped st sl = some c → (s.chamber c).config = some g →
        (s.access c = .offline → (s.station st).node ≠ .online → run = .next (endTurn a true (heard a s))) ∧
        (s.access c = .offline → (s.station st).node = .online → denies c .noChamber) ∧
        (s.access c ≠ .offline →
          ((n = 0 ∨ (s.findCard n = none ∧ s.firstTemplate n = none)) → denies c .unknownCard) ∧
          (∀ k, n ≠ 0 → s.findCard n = some k →
            (k.state = .lost → run = .next (endTurn a true
              (postWith (.alarm .lostCardSeen c) n 0 (postCommand c (.deny .lost) (heard a s))))) ∧
            (k.state = .suspended → denies c .suspended) ∧
            (k.state = .active → (∃ set, k.scope = some set ∧ set.getLsbD st.val = false) → denies c .wrongStation)) ∧
          (∀ kind rights account, admits s st n kind rights account →
            let noRight := rights.getLsbD g.fraction.code = false
            let inState (x : AccountState) := ∃ b, account = some b ∧ (look s.ret.accounts b).state = x
            let spent := s.ret.settings.charged.getLsbD g.fraction.code = true ∧ ∃ b m, account = some b ∧
              (look s.ret.accounts b).allowance = .limited m ∧
              m + (look s.ret.accounts b).overdraft ≤ (look s.ret.accounts b).used + (look s.ret.accounts b).held
            (noRight → denies c .fraction) ∧
            (¬ noRight → inState .unused → denies c .noAccount) ∧
            (¬ noRight → inState .closed → denies c .accountClosed) ∧
            (¬ noRight → (account = none ∨ inState .opened) →
              (s.access c = .full → denies c .full) ∧
              ((s.access c = .locking ∨ s.access c = .locked ∨ s.access c = .lifted) → denies c .emptying) ∧
              (s.access c = .blocked → denies c .blocked) ∧
              (s.access c = .opened →
                ((s.session c).isSome = true → denies c .hatchBusy) ∧
                (s.session c = none → spent → denies c .allowance) ∧
                (s.session c = none → ¬ spent → 4096 ≤ s.roomTaken → denies c .journalFull)))))))

/-- R119, R120, R121: a crew card at a station with no visit opens one in the lowest empty place, with the chambers in
service (those with a WAITING entry in mode LISTED), each LOCKING, each with its phase and its LOCK, or DRAINING while its
session is open; with no such chamber, with every place taken, or with another crew's visit there, it is refused. -/
def Obligations.CrewCardOpensAVisit : Prop :=
  ∀ (s : State) (a : AddrNo) (st : StationNo) (sl : SlotNo) (c : ChamberNo) (n : CardNo) (i : Fin 8) (mode : VisitMode),
    s.vdd = true → s.turnKind = some (.read .card a) → s.handedStation a = some st → s.mapped st sl = some c →
    (s.chamber c).config.isSome = true → s.access c ≠ .offline → n ≠ 0 → s.findCard n = none →
    s.firstTemplate n = some i → (look s.ret.templates i).kind = .crew mode →
    let run := exec (.attnReadEnd (.answered (answerFrame a 0x09 ([2, BitVec.ofNat 8 sl.val] ++ split40 n)))) s
    let denies (d : DenyCode) := run = .next (endTurn a true (postCommand c (.deny d) (heard a s)))
    let taken (o : ChamberNo) : Prop :=
      (∃ g, (s.chamber o).config = some g ∧ g.station = st) ∧ (s.access o = .opened ∨ s.access o = .full) ∧
        (mode = .all ∨ ∃ e, s.roundEntry o = some e ∧ e.state = .waiting)
    (∀ p v, s.visitAt st = some p → look s.ret.visits p = some v → v.crew ≠ n → denies .visitOpen) ∧
    (∀ p v, s.visitAt st = some p → look s.ret.visits p = some v → v.crew = n →
      run = .next (endTurn a true (closeVisit p .closed (heard a s)))) ∧
    (s.visitAt st = none → (∀ p, (look s.ret.visits p).isSome = true) → denies .visitLimit) ∧
    (s.visitAt st = none → (∃ p, look s.ret.visits p = none) → (∀ o, ¬ taken o) → denies .nothingListed) ∧
    (∀ p, s.visitAt st = none → look s.ret.visits p = none → (∀ q, q < p → (look s.ret.visits q).isSome = true) →
      (∃ o, taken o) → (∀ q v, look s.ret.visits q = some v → ∀ o ph, taken o → v.phaseOf o = some ph → ph.final = true) →
      ∃ x v, run = .next (endTurn a true x) ∧ look x.ret.visits p = some v ∧ v.station = st ∧ v.crew = n ∧
        v.mode = mode ∧ v.opened = s.now ∧
        v.deadline = some { start := s.elapsed, span := s.ret.settings.visitWindow } ∧
        (v.involved.map (·.chamber)).Pairwise (fun b d => b < d) ∧ (∀ o, o ∈ v.involved.map (·.chamber) ↔ taken o) ∧
        (∀ o, taken o → x.access o = .locking ∧
          x.phaseOf o = some (if (s.session o).isSome then .draining else .locking) ∧
          (s.session o = none → (s.slot o).pending = none → (x.slot o).pending = some (.lock, s.now)) ∧
          (∀ e, s.roundEntry o = some e → x.roundEntry o = some { e with state := .inVisit st })) ∧
        (∀ o, ¬ taken o → x.chamber o = s.chamber o) ∧ x.ret.sessions = s.ret.sessions ∧
        posted .round x ∧ posted (.visit st) x ∧
        (s.main.line.power.state = .preparing → x.main.line.power.state = .active ∧ x.main.line.power.cause = .visit))

/-- R22, R33, R59, R85, R86, R88, R100: a HATCH report for an ANSWERED session closes it, CYCLE_DONE with DEPOSIT and
ABANDONED with ABANDONED: the record is appended with the next sequence number, the reservation is given back, and used
rises for a charged deposit alone, which also counts one step: threshold evaluation then runs at the new E, on the access
state, the list and the candidate flags (R33 to R36), and (CHAMBER, chamber) is posted. Every other report is late or
unknown and changes nothing, and so is one handed over with no station. -/
def Obligations.HatchReportClosesTheSession : Prop :=
  (∀ (s : State) (a : AddrNo) (sl : SlotNo) (report : Byte), s.vdd = true → s.turnKind = some (.read .hatch a) →
    s.handedStation a = none →
    exec (.attnReadEnd (.answered (answerFrame a 0x09 [1, BitVec.ofNat 8 sl.val, report]))) s =
      .next (endTurn a true (heard a s))) ∧
  (∀ (s : State) (a : AddrNo) (st : StationNo) (sl : SlotNo) (report : Byte), s.vdd = true →
    s.turnKind = some (.read .hatch a) → s.handedStation a = some st →
    let run := exec (.attnReadEnd (.answered (answerFrame a 0x09 [1, BitVec.ofNat 8 sl.val, report]))) s
    (s.mapped st sl = none → run = .next (endTurn a true (heard a s))) ∧
    (∀ c, s.mapped st sl = some c →
      (s.session c = none → run = .next (endTurn a true (heard a s))) ∧
      (∀ x, s.session c = some x →
        ((x.phase ≠ .answered ∨ s.access c = .offline ∨ (report ≠ 1 ∧ report ≠ 2)) →
          run = .next (endTurn a true (heard a s))) ∧
        (∀ g, x.phase = .answered → s.access c ≠ .offline → (s.chamber c).config = some g → (report = 1 ∨ report = 2) →
          ∃ t, run = .next (endTurn a true t) ∧ t.session c = none ∧ (∀ o, o ≠ c → t.session o = s.session o) ∧
            t.ret.journal = s.ret.journal ++
              [closingRecord c g x (if report = 1 then .deposit else .abandoned) s] ∧
            t.ret.nextSeq = s.ret.nextSeq + 1 ∧ (s.ret.journal.length = 3071 → posted .journal t) ∧
            (∀ b, x.charged = true → x.account = some b →
              let old := look s.ret.accounts b
              t.ret.accounts = put s.ret.accounts b { old with
                held := old.held - 1, used := if report = 1 then min 65535 (old.used + 1) else old.used }) ∧
            ((x.charged = false ∨ x.account = none) → t.ret.accounts = s.ret.accounts) ∧
            (let old := (s.chamber c).estimate
             (t.chamber c).estimate = if report = 1 then stepped old else old) ∧
            (report = 1 → posted (.chamber c) t ∧ evaluated c g (s.onEstimate c stepped) t) ∧
            (report = 2 → t.ret.chambers = s.ret.chambers ∧ t.ret.round = s.ret.round) ∧
            (∀ o, o ≠ c → t.chamber o = s.chamber o) ∧ t.ret.cards = s.ret.cards ∧
            (s.phaseOf c = some .draining → t.phaseOf c = some .locking)))))

/-- R9, R22, R33, R124, R125, R126, R128, R129: LIFT OUT on a LOCKED chamber makes it LIFTED with its mark, E and time,
and return deadline; on a LOCKING one its session closes UNCONFIRMED as well, and LOCK follows where it was draining; on a
BLOCKED one without mark it sets the mark and raises the alarm; on an OPEN or FULL chamber the session closes UNCONFIRMED
first, E is the one after its step, with threshold evaluation of the LIFTED chamber, LOCK is posted and ALARM
UNSCHEDULED_LIFT. LIFT IN on a LIFTED chamber, or a BLOCKED one with a lift mark, empties it: estimate, mark, deadline,
flag and entry go, RELEASE is posted, the chamber is due and OPEN, and in an open visit in which its phase is LIFTED or
BLOCKED the phase becomes EMPTIED and a visit without unfinished chambers closes COMPLETE (of several visits, each:
DEDUCED, assumption log entry 37). TAMPER raises its alarm alone. A report handed over with no station, or for an empty
place of the site map, is ignored. -/
def Obligations.LiftOutAndReturn : Prop :=
  (∀ (s : State) (a : AddrNo) (sl : SlotNo) (report : Byte), s.vdd = true → s.turnKind = some (.read .lift a) →
    (s.handedStation a = none ∨ ∃ st, s.handedStation a = some st ∧ s.mapped st sl = none) →
    exec (.attnReadEnd (.answered (answerFrame a 0x09 [0, BitVec.ofNat 8 sl.val, report]))) s =
      .next (endTurn a true (heard a s))) ∧
  (∀ (s : State) (a : AddrNo) (st : StationNo) (sl : SlotNo) (c : ChamberNo) (g : ChamberConfig), s.vdd = true →
    s.turnKind = some (.read .lift a) → s.handedStation a = some st → s.mapped st sl = some c →
    (s.chamber c).config = some g → 300 ≤ g.request → 350 ≤ g.full →
    let run (report : Byte) := exec (.attnReadEnd (.answered (answerFrame a 0x09 [0, BitVec.ofNat 8 sl.val, report]))) s
    let limit : Deadline := { start := s.elapsed, span := s.ret.settings.returnLimit }
    let counted := (s.onChamber c fun ch => { ch with access := .lifted }).onEstimate c stepped
    ((s.access c = .offline ∨ s.access c = .unconfigured) → ∀ report, run report = .next (endTurn a true (heard a s))) ∧
    (∀ report : Byte, report ≠ 1 → report ≠ 2 → report ≠ 3 → run report = .next (endTurn a true (heard a s))) ∧
    ((s.access c = .lifted ∨ (s.access c = .blocked ∧ (s.chamber c).liftMark.isSome = true)) →
      run 1 = .next (endTurn a true (heard a s))) ∧
    ((s.access c = .opened ∨ s.access c = .full ∨ s.access c = .locking ∨ s.access c = .locked ∨
        (s.access c = .blocked ∧ (s.chamber c).liftMark = none)) → run 2 = .next (endTurn a true (heard a s))) ∧
    (s.access c = .blocked → (s.chamber c).liftMark = none → ∃ x, run 1 = .next (endTurn a true x) ∧
      x.access c = .blocked ∧ (x.chamber c).liftMark = some { fill := s.fill c, time := s.now } ∧
      look x.main.returns c = some limit ∧ posted (.alarm .unscheduledLift c) x ∧ x.main.slots = s.main.slots) ∧
    (s.access c = .locking → ∃ x, run 1 = .next (endTurn a true x) ∧ x.access c = .lifted ∧ x.session c = none ∧
      (x.chamber c).liftMark = some { fill := x.fill c, time := s.now } ∧ look x.main.returns c = some limit ∧
      (s.phaseOf c ≠ none → x.phaseOf c = some .lifted) ∧
      (∀ y, s.session c = some y → x.ret.journal = s.ret.journal ++ [closingRecord c g y .unconfirmed s] ∧
        (x.chamber c).estimate = stepped (s.chamber c).estimate ∧ evaluated c g counted x) ∧
      (s.session c = none → (x.chamber c).estimate = (s.chamber c).estimate ∧ x.ret.round = s.ret.round) ∧
      (s.phaseOf c = some .draining → (s.slot c).pending = none → (x.slot c).pending = some (.lock, s.now)) ∧
      (∀ o, o ≠ c → x.chamber o = s.chamber o)) ∧
    (s.access c ≠ .offline → s.access c ≠ .unconfigured →
      run 3 = .next (endTurn a true (alarm .tamper c (heard a s)))) ∧
    (s.access c = .locked → ∃ x, run 1 = .next (endTurn a true x) ∧ x.access c = .lifted ∧
      (x.chamber c).liftMark = some { fill := s.fill c, time := s.now } ∧ look x.main.returns c = some limit ∧
      (s.phaseOf c ≠ none → x.phaseOf c = some .lifted) ∧ (∀ o, o ≠ c → x.chamber o = s.chamber o) ∧
      (x.chamber c).estimate = (s.chamber c).estimate ∧ x.ret.journal = s.ret.journal) ∧
    ((s.access c = .opened ∨ s.access c = .full) → ∃ x, run 1 = .next (endTurn a true x) ∧ x.access c = .lifted ∧
      x.session c = none ∧ (x.chamber c).liftMark = some { fill := x.fill c, time := s.now } ∧
      look x.main.returns c = some limit ∧ posted (.alarm .unscheduledLift c) x ∧
      (s.session c = none → (x.chamber c).estimate = (s.chamber c).estimate ∧ x.ret.journal = s.ret.journal) ∧
      (∀ y, s.session c = some y → x.ret.journal = s.ret.journal ++ [closingRecord c g y .unconfirmed s] ∧
        (x.chamber c).estimate = stepped (s.chamber c).estimate ∧ evaluated c g counted x) ∧
      ((s.slot c).pending = none → (x.slot c).pending = some (.lock, s.now)) ∧
      (∀ o, o ≠ c → x.chamber o = s.chamber o)) ∧
    ((s.access c = .lifted ∨ (s.access c = .blocked ∧ (s.chamber c).liftMark.isSome = true)) →
      ∃ x, run 2 = .next (endTurn a true x) ∧ x.access c = .opened ∧ (x.chamber c).liftMark = none ∧
        look x.main.returns c = none ∧ x.candidate c = false ∧ x.roundEntry c = none ∧ (x.chamber c).due = true ∧
        (let e := (x.chamber c).estimate
         e.anchor = 0 ∧ e.count = 0 ∧ e.fill = 0 ∧ e.divRun = 0 ∧ e.missRun = 0 ∧ e.health = .good ∧
         e.step = (s.chamber c).estimate.step ∧ e.last = (s.chamber c).estimate.last) ∧
        ((s.slot c).pending = none → (x.slot c).pending = some (.release, s.now)) ∧
        (∀ time, (s.slot c).pending = some (.lock, time) → (x.slot c).pending = none) ∧
        (∀ p v, look s.ret.visits p = some v →
          (v.phaseOf c = some .lifted ∨ v.phaseOf c = some .blocked → VisitLaw s → phaseSettled p v c .emptied x) ∧
          (v.phaseOf c ≠ some .lifted → v.phaseOf c ≠ some .blocked → look x.ret.visits p = some v)) ∧
        (∀ o, o ≠ c → (x.chamber o).estimate = (s.chamber o).estimate ∧ (x.chamber o).config = (s.chamber o).config) ∧
        x.ret.journal = s.ret.journal))

/-- R23 to R33, R48: an ECHO that matches the station's record ends the measurement. A disturbed one sets the due mark and
hands nothing over (R49); an undisturbed one is brought into range, computed into distance, height and measured fill,
judged against the minimum quality and the prediction, and written as the last reading, with A, k, E and the runs as its
outcome gives. Threshold evaluation runs after ACCEPTED and RE-ANCHORED, and after the others nothing else of the site
changes. An ECHO without a matching record, or handed over with no station, is discarded; one of a chamber that was
cleared meanwhile ends its measurement and does nothing else. -/
def Obligations.EchoBecomesAReading : Prop :=
  (∀ (s : State) (a : AddrNo) (sl : SlotNo) (t : BitVec 16) (q temp : Byte), s.vdd = true →
    s.turnKind = some (.read .echo a) → s.handedStation a = none →
    exec (.attnReadEnd (.answered (answerFrame a 0x09 ([3, BitVec.ofNat 8 sl.val] ++ split16 t ++ [q, temp])))) s =
      .next (endTurn a true (delivered a s))) ∧
  (∀ (s : State) (a : AddrNo) (st : StationNo) (sl : SlotNo) (t : BitVec 16) (q temp : Byte), s.vdd = true →
    s.turnKind = some (.read .echo a) → s.handedStation a = some st →
    let run := exec (.attnReadEnd (.answered
      (answerFrame a 0x09 ([3, BitVec.ofNat 8 sl.val] ++ split16 t ++ [q, temp])))) s
    let y := delivered a s
    ((∀ r, look s.main.sched.inflight st = some r → r.slot ≠ sl) → run = .next (endTurn a true y)) ∧
    (∀ r, look s.main.sched.inflight st = some r → r.slot = sl → (s.chamber r.chamber).config = none →
      run = .next (endTurn a true (y.setInflight st none))) ∧
    (∀ r g, look s.main.sched.inflight st = some r → r.slot = sl → (s.chamber r.chamber).config = some g →
      (r.disturbed = true → run = .next (endTurn a true
        ((y.setInflight st none).onChamber r.chamber fun ch => { ch with due := true }))) ∧
      (r.disturbed = false → 0 < g.usable →
        ∃ (x : State) (v : Reading), run = .next (endTurn a true x) ∧
          let old := (s.chamber r.chamber).estimate
          let e := (x.chamber r.chamber).estimate
          let points := look s.ret.profiles g.profile
          let sec := 8 * v.height / g.usable
          look x.main.sched.inflight st = none ∧ e.last = some v ∧ posted (.chamber r.chamber) x ∧
          v.time = s.now ∧ v.echoTime = min 40000 t.toNat ∧
          v.quality = (if t = 0 then 0 else min 15 q.toNat) ∧
          v.temperature = max (-30) (min 50 temp.toInt) ∧
          (v.distance : Int) = ((v.echoTime : Int) * (3313 + 6 * v.temperature) + 10000) / 20000 ∧
          v.height = min g.usable (if v.distance < g.depth then g.depth - v.distance else 0) ∧
          (v.height = g.usable → v.measured = look points 8) ∧
          (∀ lo hi : Fin 9, v.height < g.usable → lo.val = sec → hi.val = sec + 1 →
            v.measured = look points lo +
              ((look points hi - look points lo) * (8 * v.height - sec * g.usable) + g.usable / 2) / g.usable) ∧
          v.predicted = old.fill ∧
          (e.health = if 3 ≤ e.missRun then .silent else if e.divRun = 0 then .good else .doubtful) ∧
          (let low := t = 0 ∨ v.quality < g.minQuality
           let within := old.fill - g.tdown ≤ v.measured
           let anchored := e.anchor = v.measured ∧ e.count = 0 ∧ e.fill = min 1000 v.measured ∧ e.divRun = 0 ∧
             e.missRun = 0 ∧ e.health = .good
           let kept := e.anchor = old.anchor ∧ e.count = old.count ∧ e.fill = old.fill ∧ e.reanchors = old.reanchors
           (low → v.outcome = .lowQuality ∧ kept ∧ e.missRun = min 3 (old.missRun + 1) ∧ e.divRun = old.divRun) ∧
           (¬ low → within → v.outcome = .accepted ∧ anchored ∧ e.reanchors = old.reanchors) ∧
           (¬ low → ¬ within → old.divRun < 2 →
             v.outcome = .divergent ∧ kept ∧ e.divRun = old.divRun + 1 ∧ e.missRun = 0) ∧
           (¬ low → ¬ within → 2 ≤ old.divRun →
             v.outcome = .reAnchored ∧ anchored ∧ e.reanchors = min 255 (old.reanchors + 1))) ∧
          (let y := s.onEstimate r.chamber fun _ => e
           ((v.outcome = .accepted ∨ v.outcome = .reAnchored) → evaluated r.chamber g y x) ∧
           ((v.outcome = .lowQuality ∨ v.outcome = .divergent) → x.access r.chamber = s.access r.chamber ∧
             x.ret.round = s.ret.round ∧ x.main.candidates = s.main.candidates)) ∧
          (∀ o, o ≠ r.chamber → x.chamber o = s.chamber o))))

/-! ## Census and bindings -/

/-- R145 to R149, R158: the steps of a census. CENSUS_OPEN empties the withheld set; a serial read takes out the entry that
holds it, whose address is withheld, and goes on to ASSIGN of the lowest free address, or ends the census with LINE_FULL
where none is free; an answered ASSIGN makes the
entry and sets the address's toggle to 0. R50, R89, R152: the silent window ends the census: its state is IDLE, or PENDING
where a request was kept; the period deadline is one census period later; a guard deadline less than 10 s away is moved to
10 s after the end and a later one is kept; every WAITING measurement gets 3 s; a census that bound a station requests a
sweep, with its due marks and its sweep-owed set (R53); (LINE) is posted. -/
def Obligations.CensusStepsAndEnd : Prop :=
  (∀ s : State, s.vdd = true →
     let k := s.main.line.census
     let ends (x : State) : Host.Outcome State Fault Refusal := .next (settle (freeLine x))
     (s.turnKind = some .censusOpen → exec .censusOpenSent s = ends (s.onLine fun l =>
       { l with withheld := Vector.replicate 16 false, census := { k with next := .contend } })) ∧
     (s.turnKind = some .contend → ∀ n : Serial,
       (s.addressOf n = none → ∀ b : AddrNo, s.entry b = none → look s.main.line.withheld b = false →
         (∀ o, o < b → (s.entry o).isSome = true ∨ look s.main.line.withheld o = true) →
         exec (.contendWindow true n) s =
           ends (s.onCensus fun _ => { k with serialRead := n, given := b, next := .assign })) ∧
       (s.addressOf n = none → (∀ b, (s.entry b).isSome = true ∨ look s.main.line.withheld b = true) →
         ∃ x, exec (.contendWindow true n) s = ends x ∧ x.main.line.table = s.main.line.table ∧
           posted (.alarm .lineFull 0) x ∧ posted .line x ∧
           x.main.line.census.state = (if k.kept then .pending else .idle)) ∧
       (∀ b e, s.addressOf n = some b → s.entry b = some e → ∃ x, exec (.contendWindow true n) s = ends x ∧
         x.entry b = none ∧ look x.main.line.withheld b = true ∧ posted (.node b) x ∧
         (∀ st, e.station = some st → e.binding = .none →
           (x.station st).node = .offline ∧ (x.station st).address = none ∧ (x.station st).serial = (s.station st).serial) ∧
         (∀ o, o ≠ b → x.entry o = s.entry o) ∧
         (∀ d : AddrNo, s.entry d = none → look s.main.line.withheld d = false →
           (∀ o, o < d → (s.entry o).isSome = true ∨ look s.main.line.withheld o = true) →
           x.main.line.census = { k with serialRead := n, given := d, next := .assign }) ∧
         ((∀ d, (s.entry d).isSome = true ∨ look s.main.line.withheld d = true) →
           posted (.alarm .lineFull 0) x ∧ posted .line x ∧
           x.main.line.census.state = (if k.kept then .pending else .idle)))) ∧
     (∀ a, s.turnKind = some (.assign a) →
       exec (.assignEnd (.answered (answerFrame a 0x03 []))) s = ends (s.onLine fun l =>
         { l with
           table := put l.table a (some { serial := k.serialRead, station := none, missRun := 0, binding := .none }),
           attention := { l.attention with toggles := put l.attention.toggles a false },
           census := { k with next := .status } }) ∧
       ∃ x, exec (.assignEnd .failed) s = ends x ∧ x.main.line.withheld = put s.main.line.withheld a true ∧
         x.main.line.table = s.main.line.table ∧ x.main.line.census.state = (if k.kept then .pending else .idle) ∧
         posted .line x)) ∧
  (∀ (s : State) (n : Serial), s.vdd = true → s.turnKind = some .contend →
     ∃ x, exec (.contendWindow false n) s = .next (settle (freeLine x)) ∧
       x.main.line = { s.main.line with census := { s.main.line.census with
         state := if s.main.line.census.kept then .pending else .idle
         kept := false
         period := some { start := s.elapsed, span := s.ret.settings.censusPeriod } } } ∧
       (∀ c, (s.session c = none → x.session c = none) ∧
         ∀ y, s.session c = some y →
           (∀ d, y.guard = some d → d.span - (s.elapsed - d.start).toNat < 10 →
             x.session c = some { y with guard := some { start := s.elapsed, span := 10 } }) ∧
           (∀ d, y.guard = some d → 10 ≤ d.span - (s.elapsed - d.start).toNat → x.session c = some y)) ∧
       (∀ st r d, look s.main.sched.inflight st = some r → r.phase = .waiting d →
         look x.main.sched.inflight st = some { r with phase := .waiting { start := s.elapsed, span := 3 } }) ∧
       (∀ st r, look s.main.sched.inflight st = some r → r.phase = .sending →
         look x.main.sched.inflight st = some r) ∧
       (∀ c, (x.chamber c).due = ((s.chamber c).due || (s.main.line.census.bound && (s.chamber c).config.isSome)) ∧
         look x.main.sched.owed c = (look s.main.sched.owed c || (s.main.line.census.bound &&
           (s.chamber c).config.isSome && (s.access c = .opened || s.access c = .full)))) ∧
       posted .line x ∧ x.ret = { s.ret with sessions := x.ret.sessions, chambers := x.ret.chambers })

/-- R14, R150, R151, R153: an answered STATUS of a census, and of a binding, makes the station ONLINE with the entry's
address, miss run 0 and the slot count of the answer, and brings each of its OFFLINE chambers back by its slot report and its
lift mark. A census sets its bound flag and goes on to CONTEND. A binding requests a sweep, with its due marks and its
sweep-owed set (R53), and leaves the census as it was (DEDUCED, assumption log entry 24). The entry's own miss run stands at
0 once it counts as bound (DEDUCED, entry 23). What the four slot report bytes say stands beside them (DESIGN CHOICE, entry
13). -/
def Obligations.StatusAnswerBringsTheStationOnline : Prop :=
  ∀ (s : State) (a : AddrNo) (e : LineEntry) (st : StationNo) (census : Bool) (frame : List Byte)
      (count r0 r1 r2 r3 : Byte) (reports : Vector SlotReport 4), s.vdd = true → s.entry a = some e →
    openLineFrame frame = some (addrByte a, 0x84, split48 e.serial ++ [count, r0, r1, r2, r3]) →
    1 ≤ count.toNat → count.toNat ≤ 4 →
    (census = true → s.turnKind = some (.status a) ∧ s.stationOf e.serial = some st) →
    (census = false → s.turnKind = some (.bindStatus a) ∧ e.station = some st) →
    let told : StatusEnd := .answered frame reports
    ∃ x, exec (if census then .statusEnd told else .bindingStatusEnd told) s = .next (endTurn a true x) ∧
      x.entry a = some { e with station := some st, binding := .none, missRun := 0 } ∧
      (∀ o, o ≠ a → x.entry o = s.entry o) ∧
      x.station st = { s.station st with address := some a, node := .online, missRun := 0, slotCount := count.toNat } ∧
      (∀ o, o ≠ st → x.station o = s.station o) ∧ posted (.node a) x ∧
      x.main.line.census = (if census then { s.main.line.census with bound := true, next := .contend }
        else s.main.line.census) ∧
      (census = false → ∀ o, (s.chamber o).config.isSome = true → (x.chamber o).due = true) ∧
      (∀ o,
        let serves := x.access o = .opened ∨ x.access o = .full
        (census = false → (s.chamber o).config.isSome = true → serves → look x.main.sched.owed o = true) ∧
        ((census = true ∨ (s.chamber o).config = none) → serves →
          look x.main.sched.owed o = look s.main.sched.owed o) ∧
        (¬ serves → x.access o = s.access o → look x.main.sched.owed o = look s.main.sched.owed o) ∧
        (¬ serves → x.access o ≠ s.access o → look x.main.sched.owed o = false)) ∧
      x.ret.sessions = s.ret.sessions ∧ x.ret.journal = s.ret.journal ∧
      ∀ c g, (s.chamber c).config = some g → g.station = st → s.access c = .offline → 300 ≤ g.request → 350 ≤ g.full →
        let r := look reports g.slot
        let mark := (s.chamber c).liftMark
        let held := (s.slot c).pending = none ∧ r.hatch ≠ .serviceLocked
        (count.toNat ≤ g.slot.val → x.access c = .offline ∧ (x.chamber c).liftMark = mark) ∧
        (g.slot.val < count.toNat → mark = none → r.lift = .atHome →
          x.access c = (if g.full ≤ s.fill c then .full else .opened) ∧ (x.chamber c).liftMark = none ∧
          (r.hatch = .serviceLocked → (s.slot c).pending = none → (x.slot c).pending = some (.release, s.now)) ∧
          (r.hatch ≠ .serviceLocked → x.slot c = s.slot c)) ∧
        (g.slot.val < count.toNat → mark = none → r.lift = .out →
          x.access c = .lifted ∧ (x.chamber c).liftMark = some { fill := s.fill c, time := s.now } ∧
          look x.main.returns c = some { start := s.elapsed, span := s.ret.settings.returnLimit } ∧
          posted (.alarm .unscheduledLift c) x ∧ (held → (x.slot c).pending = some (.lock, s.now))) ∧
        (g.slot.val < count.toNat → mark.isSome = true → r.lift = .out →
          x.access c = .lifted ∧ (x.chamber c).liftMark = mark ∧
          (∀ d, look s.main.returns c = some d → look x.main.returns c = some d) ∧
          (held → (x.slot c).pending = some (.lock, s.now))) ∧
        (g.slot.val < count.toNat → mark.isSome = true → r.lift = .atHome →
          x.access c = .opened ∧ (x.chamber c).liftMark = none ∧ x.fill c = 0 ∧ x.roundEntry c = none ∧
          (x.chamber c).due = true)

/-- R150, R153: a STATUS of a census answered with a serial no station is bound to leaves the entry unbound and posts
(NODE, address); a failed one removes the entry, withholds the address and posts nothing; a failed binding STATUS does the
same and posts (NODE, address), and the station stays OFFLINE. What the slot report bytes of the answer say stands beside them
(DESIGN CHOICE, assumption log entry 13). -/
def Obligations.UnboundAndFailedStatus : Prop :=
  ∀ (s : State) (a : AddrNo) (e : LineEntry), s.vdd = true → s.entry a = some e →
    (s.turnKind = some (.status a) →
      (∀ (frame : List Byte) (count r0 r1 r2 r3 : Byte) (reports : Vector SlotReport 4),
        openLineFrame frame = some (addrByte a, 0x84, split48 e.serial ++ [count, r0, r1, r2, r3]) →
        1 ≤ count.toNat → count.toNat ≤ 4 → s.stationOf e.serial = none →
        exec (.statusEnd (.answered frame reports)) s =
          .next (endTurn a true (nextStep .contend (postNode a e.serial s)))) ∧
      ∃ x, exec (.statusEnd .failed) s = .next (endTurn a false x) ∧ x.entry a = none ∧
        x.main.line.withheld = put s.main.line.withheld a true ∧ (∀ o, o ≠ a → x.entry o = s.entry o) ∧
        x.main.line.census = { s.main.line.census with next := .contend } ∧ x.ret = s.ret ∧
        x.main.host = s.main.host) ∧
    (s.turnKind = some (.bindStatus a) →
      ∃ x, exec (.bindingStatusEnd .failed) s = .next (endTurn a false x) ∧ x.entry a = none ∧
        x.main.line.withheld = put s.main.line.withheld a true ∧ (∀ o, o ≠ a → x.entry o = s.entry o) ∧
        x.main.line.census = s.main.line.census ∧ x.ret = s.ret ∧ posted (.node a) x)

/-! ## Deadlines -/

/-- R22, R33, R87, R89: a guard deadline that is reached closes its session UNCONFIRMED: the record is appended, the
reservation is given back and one step is counted, with threshold evaluation at the new E. While a census is RUNNING it is
not taken, and a chamber without one has nothing to take. R128, R129: a return deadline that is reached makes a LIFTED
chamber BLOCKED with its mark kept, removes the deadline and raises NOT_RETURNED, its phase in the open visit that works
on it (DEDUCED, assumption log entry 37) becomes BLOCKED, and a visit without unfinished chambers closes COMPLETE; for an
OFFLINE or BLOCKED chamber it is set again one return limit later. The seconds left to a deadline pass with it (DESIGN
CHOICE, assumption log entry 6). -/
def Obligations.ChamberDeadlines : Prop :=
  (∀ (s : State) (c : ChamberNo), s.vdd = true →
     ((∀ x d, s.session c = some x → x.guard ≠ some d) → exec (.guardDeadline c) s = .next s) ∧
     (s.main.line.census.state = .running → exec (.guardDeadline c) s = .next s) ∧
     (∀ x d g, s.session c = some x → x.guard = some d → s.main.line.census.state ≠ .running →
       (s.chamber c).config = some g →
       let later := passTo d s
       ∃ t, exec (.guardDeadline c) s = .next (settle t) ∧ t.session c = none ∧
         t.ret.clock = later.ret.clock ∧ (∀ o, o ≠ c → t.session o = s.session o) ∧
         t.ret.journal = s.ret.journal ++ [closingRecord c g x .unconfirmed later] ∧
         (∀ b, x.charged = true → x.account = some b → t.ret.accounts =
           put s.ret.accounts b { look s.ret.accounts b with held := (look s.ret.accounts b).held - 1 }) ∧
         ((x.charged = false ∨ x.account = none) → t.ret.accounts = s.ret.accounts) ∧
         (t.chamber c).estimate = stepped (s.chamber c).estimate ∧ posted (.chamber c) t ∧
         evaluated c g (later.onEstimate c stepped) t ∧
         (∀ o, o ≠ c → t.chamber o = s.chamber o) ∧
         (x.phase = .posted → s.phaseOf c ≠ some .draining →
           ∀ w time, (s.slot c).pending = some (.unlock w, time) → (t.slot c).pending = none))) ∧
  (∀ (s : State) (c : ChamberNo), s.vdd = true →
     (look s.main.returns c = none → exec (.returnDeadline c) s = .next s) ∧
     (∀ d, look s.main.returns c = some d →
       let later := passTo d s
       (s.access c = .lifted → ∃ x, exec (.returnDeadline c) s = .next (settle x) ∧ x.access c = .blocked ∧
         (x.chamber c).liftMark = (s.chamber c).liftMark ∧ look x.main.returns c = none ∧
         posted (.alarm .notReturned c) x ∧ posted (.chamber c) x ∧ x.ret.clock = later.ret.clock ∧
         x.main.returns = put s.main.returns c none ∧ (∀ o, o ≠ c → x.chamber o = s.chamber o) ∧
         (∀ e, s.phaseOf c = some .lifted → s.roundEntry c = some e →
           x.roundEntry c = some { e with state := .waiting }) ∧
         (s.visitOf c = none → x.ret.visits = s.ret.visits) ∧
         (∀ p v, s.visitOf c = some p → look s.ret.visits p = some v → phaseSettled p v c .blocked x ∧
           ∀ q, q ≠ p → look x.ret.visits q = look s.ret.visits q)) ∧
       ((s.access c = .offline ∨ s.access c = .blocked) → exec (.returnDeadline c) s =
         .next (settle (later.setReturn c (some { start := later.elapsed, span := s.ret.settings.returnLimit }))))))

/-- R114, R130, R131: a visit's deadline closes it EXPIRED: its record leaves its place, its summary is written, a LOCKED or
LOCKING chamber comes back OPEN or FULL according to E with RELEASE posted for a LOCKED one, and a LIFTED chamber stays
LIFTED. The entry of a LIFTED chamber is WAITING again; that of a DRAINING, LOCKING or LOCKED one is WAITING with its skip
count 1 higher, up to 15, URGENT where the count reaches 3 or the chamber is FULL, unless threshold evaluation withdraws it:
not forced and E below request threshold - 50. (The entries are stated where no offer of the close can displace one: room on
the list for every chamber of the visit, or every one of them listed.) The seconds left to the deadline pass first (DESIGN
CHOICE, assumption log entry 6); where no visit is open at the station, nothing changes (R131). -/
def Obligations.VisitDeadlineExpiresTheVisit : Prop :=
  ∀ (s : State) (st : StationNo), s.vdd = true →
    (s.visitAt st = none → exec (.visitDeadline st) s = .next s) ∧
    (∀ p v d, s.visitAt st = some p → look s.ret.visits p = some v → v.deadline = some d →
      (v.involved.map (·.chamber)).Nodup →
      let later := passTo d s
      ∃ t, exec (.visitDeadline st) s = .next (settle t) ∧ look t.ret.visits p = none ∧
        (∀ q, q ≠ p → look t.ret.visits q = look s.ret.visits q) ∧ t.ret.clock = later.ret.clock ∧
        (∃ m, look t.ret.summaries st = some m ∧ m.crew = v.crew ∧ m.opened = v.opened ∧ m.closed = later.now ∧
          m.outcome = .expired ∧ m.unfinished = (v.involved.filter fun i => !i.phase.final).length ∧
          m.emptied = (v.involved.filter fun i => i.phase = .emptied).length ∧
          m.blocked = (v.involved.filter fun i => i.phase = .blocked).length ∧
          m.left = (v.involved.filter fun i => i.phase = .left).length) ∧
        posted (.visit st) t ∧ posted .round t ∧
        (∀ i ∈ v.involved, i.phase.final = true ∨ i.phase = .lifted → t.access i.chamber = s.access i.chamber) ∧
        (∀ i g, i ∈ v.involved → (s.chamber i.chamber).config = some g →
          ((i.phase = .draining ∨ i.phase = .locking) → s.access i.chamber = .locking →
            t.access i.chamber = if g.full ≤ s.fill i.chamber then .full else .opened) ∧
          (i.phase = .locked → s.access i.chamber = .locked →
            t.access i.chamber = (if g.full ≤ s.fill i.chamber then .full else .opened) ∧
            ((s.slot i.chamber).pending = none → (t.slot i.chamber).pending = some (.release, later.now))) ∧
          (i.phase = .locking → s.access i.chamber = .locking →
            ∀ time, (t.slot i.chamber).pending ≠ some (.lock, time))) ∧
        (∀ i e, i ∈ v.involved → s.roundEntry i.chamber = some e → RoundLaw s →
          (s.ret.round.length + v.involved.length ≤ 32 ∨ ∀ j ∈ v.involved, (s.roundEntry j.chamber).isSome = true) →
          (i.phase = .lifted → t.roundEntry i.chamber = some { e with state := .waiting }) ∧
          (∀ g, (s.chamber i.chamber).config = some g →
            (i.phase = .draining ∨ i.phase = .locking ∨ i.phase = .locked) →
            (s.access i.chamber = .locking ∨ s.access i.chamber = .locked) →
            ((e.forced = true ∨ g.request - 50 ≤ s.fill i.chamber) → t.roundEntry i.chamber = some { e with
              state := .waiting, skips := min 15 (e.skips + 1),
              urgency := if e.skips = 2 ∨ g.full ≤ s.fill i.chamber then .urgent else e.urgency }) ∧
            (e.forced = false → s.fill i.chamber < g.request - 50 → t.roundEntry i.chamber = none))) ∧
        t.ret.sessions = s.ret.sessions ∧ t.ret.journal = s.ret.journal)

/-- R154, R162, R163, R166, R167, R168: the line power events. The quiet deadline enters PREPARING with a sweep on a quiet
site and is otherwise set again; the DORMANT frame sent in PREPARING drops the line to keep-alive with its dormant
deadline; the dormant deadline and a pulse of at least 1 ms wake it at full power, and a shorter one, or one in another
state, does nothing; the settle end makes it ACTIVE with the last cause kept, a sweep and a new period deadline, and
requests the census that a LINE RESET left waiting with its DROP_ADDRESS (R154, R170). The DROP_ADDRESS frame sent frees
the line. The model's own: the seconds left to a deadline pass first (DESIGN CHOICE, assumption log entry 6), nothing
happens where no such deadline stands (DESIGN CHOICE, entry 11), and the DORMANT frame of an abandoned preparation that
ends in another one drops the line too (DESIGN CHOICE, entry 43). -/
def Obligations.LinePowerEvents : Prop :=
  ∀ s : State, s.vdd = true →
    let w := s.main.line.power
    let quietAt (x : State) : Option Deadline := if s.ret.settings.quietPeriod = 0 then none
      else some { start := x.elapsed, span := s.ret.settings.quietPeriod }
    let swept (x : State) : Prop := ∀ c,
      (x.chamber c).due = ((s.chamber c).due || (s.chamber c).config.isSome) ∧
      look x.main.sched.owed c = (look s.main.sched.owed c ||
        ((s.chamber c).config.isSome && (s.access c = .opened || s.access c = .full)))
    let woken (cause : PowerCause) (x : State) : Power :=
      { w with state := .waking, cause := cause, changed := x.now, dormant := none, lpw := .full, settleMs := some 150 }
    (∀ d, w.state = .active → w.quiet = some d →
      let later := passTo d s
      (s.quietSite = true → ∃ x, exec .quietDeadline s = .next (settle x) ∧ x.ret.clock = later.ret.clock ∧
        x.main.line.power = { w with state := .preparing, cause := .quiet, changed := later.now, quiet := none } ∧
        posted .line x ∧ swept x) ∧
      (s.quietSite = false → exec .quietDeadline s =
        .next (settle (later.onPower fun p => { p with quiet := quietAt later })))) ∧
    ((w.state ≠ .active ∨ w.quiet = none) → exec .quietDeadline s = .next s) ∧
    (s.turnKind = some .dormantCast → w.state = .preparing → ∃ x, exec .dormantSent s = .next (settle x) ∧
      x.main.line = { s.main.line with
        turn := none
        power := { w with state := .dormant, cause := .sweepDone, changed := s.now, lpw := .keepAlive,
                          dormant := some { start := s.elapsed, span := s.ret.settings.dormantLimit } } } ∧
      x.ret = s.ret ∧ posted .line x) ∧
    (s.turnKind = some .dropAddress → exec .dropAddressSent s = .next (settle (freeLine s))) ∧
    (∀ d, w.state = .dormant → w.dormant = some d →
      let later := passTo d s
      ∃ x, exec .dormantDeadline s = .next (settle x) ∧ x.ret = later.ret ∧ posted .line x ∧
        x.main.line = { s.main.line with power := woken .limit later }) ∧
    ((w.state ≠ .dormant ∨ w.dormant = none) → exec .dormantDeadline s = .next s) ∧
    (∀ n, w.state = .dormant → 1000 ≤ n → ∃ x, exec (.wakePulse n) s = .next (settle x) ∧ x.ret = s.ret ∧
      posted .line x ∧ x.main.line = { s.main.line with power := woken .wakePulse s }) ∧
    (∀ n, (w.state ≠ .dormant ∨ n < 1000) → exec (.wakePulse n) s = .next s) ∧
    (w.state = .waking → ∃ x, exec .settleEnd s = .next (settle x) ∧ swept x ∧ posted .line x ∧
      x.main.line.power = { w with state := .active, changed := s.now, settleMs := none, quiet := quietAt s } ∧
      x.main.line.dropDue = s.main.line.dropDue ∧
      let k := { s.main.line.census with period := some { start := s.elapsed, span := s.ret.settings.censusPeriod } }
      (s.main.line.dropDue = false → x.main.line.census = k) ∧
      (s.main.line.dropDue = true → x.main.line.census =
        if k.state = .running then { k with kept := true } else { k with state := .pending })) ∧
    (w.state ≠ .waking → exec .settleEnd s = .next s)

/-! ## Laws that every step keeps -/

/-- R10, R175, R180: every step keeps the outbox free of repeated keys and the queues within their four places, and keeps the
posting order the list of the chambers whose pending place is occupied, none twice. -/
def Obligations.StepKeepsHostAndPostingLaws : Prop :=
  (∀ s t : State, HostLaw s → step s = .next t → HostLaw t) ∧
  (∀ s t : State, PostingLaw s → step s = .next t → PostingLaw t)

/-- R144, R162, R166: every step keeps the deadlines of the power record in their states, LPW at the level of the state,
the site without session and visit in PREPARING and DORMANT, and the line without turn in DORMANT and WAKING. -/
def Obligations.StepKeepsPowerAndDormancyLaws : Prop :=
  ∀ s t : State, PowerLaw s → DormancyLaw s → step s = .next t → PowerLaw t ∧ DormancyLaw t

/-- R99, R102: every step keeps the journal's sequence numbers gapless up to the next one, and the records and open
sessions within 4096. -/
def Obligations.StepKeepsJournalLaws : Prop :=
  ∀ s t : State, SequenceLaw s → RoomLaw s → step s = .next t → SequenceLaw t ∧ RoomLaw t

/-- R111: every step keeps the round list within 32 entries, no chamber twice, URGENT before NORMAL, and no listed chamber
a candidate. -/
def Obligations.StepKeepsRoundLaw : Prop := ∀ s t : State, RoundLaw s → step s = .next t → RoundLaw t

/-- R20, R31: every step keeps every chamber's E at min(1000, A + k S) and its health what the two runs give. -/
def Obligations.StepKeepsEstimateLaw : Prop := ∀ s t : State, EstimateLaw s → step s = .next t → EstimateLaw t

/-- R56, R59: every step keeps the card table in strictly ascending order, and every account's held count at the number of
the open sessions charged to it. -/
def Obligations.StepKeepsCardAndHeldLaws : Prop :=
  ∀ s t : State, CardLaw s → HeldLaw s → step s = .next t → CardLaw t ∧ HeldLaw t

/-- R1, R119: every step keeps the site map what the configurations give, UNCONFIGURED the chambers without one, and at
most one visit open per station. -/
def Obligations.StepKeepsSiteLaws : Prop :=
  ∀ s t : State, SiteMapLaw s → AccessLaw s → VisitLaw s → step s = .next t → SiteMapLaw t ∧ AccessLaw t ∧ VisitLaw t

/-- R14, R140: every step keeps each station's node state, address and serial together, each serial at one station, and
each address and serial at one entry of the line address table. -/
def Obligations.StepKeepsLineTableLaw : Prop :=
  ∀ s t : State, StationLaw s → LineTableLaw s → step s = .next t → StationLaw t ∧ LineTableLaw t

/-- The state after reset meets every law, so every state that a run reaches meets them. State.reset is the model's choice
of the moment right after a cold start (R185; DESIGN CHOICE, assumption log entries 9 and 10). -/
def Obligations.ResetMeetsTheLaws : Prop :=
  let s := State.reset
  HostLaw s ∧ PostingLaw s ∧ PowerLaw s ∧ DormancyLaw s ∧ SequenceLaw s ∧ RoomLaw s ∧ RoundLaw s ∧ EstimateLaw s ∧
    CardLaw s ∧ HeldLaw s ∧ SiteMapLaw s ∧ AccessLaw s ∧ VisitLaw s ∧ StationLaw s ∧ LineTableLaw s

/-! ## Threshold evaluation and its offers -/

/-- R33 to R36, R112 to R115: threshold evaluation of a configured chamber, in every state that meets the list's law. The
access step makes an OPEN chamber FULL at the full threshold and a FULL one OPEN below it less 50. Below the request
threshold less 50 a WAITING entry that is not forced is withdrawn, the freed slot admits the best candidate, and a candidate
flag is cleared. At or above the request threshold an unlisted chamber without the flag is offered. The WAITING and NORMAL
entry of a chamber then FULL is promoted to the end of the URGENT class. Otherwise nothing more changes. An offer is taken
in three ways: room on the list makes an entry at the end of its class; on a full list a FULL offer displaces the youngest
WAITING, unforced, NORMAL entry, whose chamber takes the candidate flag; in every other case the offered chamber takes it. -/
def Obligations.ThresholdEvaluationAndOffers : Prop :=
  ∀ (s : State) (c : ChamberNo) (g : ChamberConfig), s.vdd = true → RoundLaw s → (s.chamber c).config = some g →
    let made (u : Urgency) (d : ChamberNo) (fr : Fraction) : Entry :=
      { chamber := d, fraction := fr, fill := s.fill d, entered := s.now, urgency := u, forced := false,
        state := s.entryState d, skips := 0 }
    let joined (e : Entry) (list : List Entry) : List Entry :=
      let first := list.filter (·.urgency = .urgent)
      let last := list.filter (·.urgency = .normal)
      if e.urgency = .urgent then first ++ e :: last else first ++ last ++ [e]
    let displaceable (e : Entry) : Prop := e.state = .waiting ∧ e.forced = false ∧ e.urgency = .normal
    let listing (list : List Entry) (x : State) : State := { x with ret := { x.ret with round := list } }
    let flagging (d : ChamberNo) (b : Bool) (x : State) : State :=
      if s.candidate d = b then x
      else post (.chamber d) { x with main := { x.main with candidates := put s.main.candidates d b } }
    (s.roundEntry c = none → ∀ full : Bool,
      let x := takeOffer c full s
      (s.ret.round.length < 32 →
        x = post .round (listing (joined (made (if full then .urgent else .normal) c g.fraction) s.ret.round) s)) ∧
      (∀ older d younger, full = true → s.ret.round.length = 32 → s.ret.round = older ++ d :: younger → displaceable d →
        (∀ o ∈ younger, ¬ displaceable o) →
        x.ret = { s.ret with round := joined (made .urgent c g.fraction) (older ++ younger) } ∧
        x.main = { s.main with candidates := put s.main.candidates d.chamber true, host := x.main.host } ∧
        posted .round x ∧ posted (.chamber d.chamber) x) ∧
      (s.ret.round.length = 32 → (full = false ∨ ∀ o ∈ s.ret.round, ¬ displaceable o) → x = flagging c true s)) ∧
    (let level := s.fill c
     let next : Access := match s.access c with
       | .opened => if g.full ≤ level then .full else .opened
       | .full => if level < g.full - 50 then .opened else .full
       | other => other
     let y : State := if next = s.access c then s else post (.chamber c)
       { s with ret := { s.ret with chambers := put s.ret.chambers c { s.chamber c with access := next } } }
     let x := evaluate c s
     (∀ e, s.roundEntry c = some e →
       let withdrawn := level < g.request - 50 ∧ e.state = .waiting ∧ e.forced = false
       let promoted := next = .full ∧ e.state = .waiting ∧ e.urgency = .normal
       let others := s.ret.round.filter (·.chamber ≠ c)
       (withdrawn → (∀ o, s.candidate o = false) → x = post .round (listing others y)) ∧
       (withdrawn → ∀ d h, s.candidate d = true → (s.chamber d).config = some h →
         (∀ o, s.candidate o = true → s.fill o ≤ s.fill d ∧ (s.fill o = s.fill d → d ≤ o)) →
         let admitted := made (if s.access d = .full then .urgent else .normal) d h.fraction
         x.ret = { y.ret with round := joined admitted others } ∧
         x.main = { s.main with candidates := put s.main.candidates d false, host := x.main.host } ∧
         posted .round x ∧ posted (.chamber d) x) ∧
       (¬ withdrawn → promoted → x = post .round (listing (joined { e with urgency := .urgent } others) y)) ∧
       (¬ withdrawn → ¬ promoted → x = y)) ∧
     (s.roundEntry c = none →
       (level < g.request - 50 → x = flagging c false y) ∧
       (g.request - 50 ≤ level → (level < g.request ∨ s.candidate c = true) → x = y) ∧
       (g.request ≤ level → s.candidate c = false → x = takeOffer c (next = .full) y)))
end

