-- ==== Sys2Proof/Laws/Answers.lean ====
section
/-! SUPPORT. What the line engine takes as the answer of a STATUS (R136, R137). -/

namespace Sys2Proof.Machine

/-! ## Six bytes of a serial -/

@[simp] theorem split48_join48 (a b c d e f : Byte) : split48 (join48 a b c d e f) = [a, b, c, d, e, f] := by
  have h (x : BitVec 48) (k : Nat) (y : Byte) (h : ∀ i, i < 8 → x.getLsbD (k + i) = y.getLsbD i) : x.extractLsb' k 8 = y := by
    ext i hi; simpa [hi] using h i hi
  simp only [split48, join48, List.cons.injEq, and_true]
  refine ⟨?_, ?_, ?_, ?_, ?_, ?_⟩ <;> refine h _ _ _ fun i hi => ?_ <;> simp only [BitVec.getLsbD_append] <;>
    repeat' (split <;> first | omega | skip)
  all_goals congr 1; omega

theorem join48_split48 (x : BitVec 48) : join48 (x.extractLsb' 40 8) (x.extractLsb' 32 8) (x.extractLsb' 24 8)
    (x.extractLsb' 16 8) (x.extractLsb' 8 8) (x.extractLsb' 0 8) = x := by
  refine BitVec.eq_of_getLsbD_eq fun i hi => ?_
  have h (k m : Nat) (hm : m < 8) (hk : k + m = i) : (x.extractLsb' k 8).getLsbD m = x.getLsbD i := by
    rw [BitVec.getLsbD_extractLsb', decide_eq_true hm, Bool.true_and, hk]
  simp only [join48, BitVec.getLsbD_append]
  repeat' split
  all_goals exact h _ _ (by omega) (by omega)

/-! ## The answer of a STATUS -/

/-- What a STATUS answer's payload is (section 8.3). -/
theorem readStatus_eq_some {reports : Vector SlotReport 4} {p : List Byte} {ans : StatusAnswer} :
    readStatus reports p = some ans ↔ ans.reports = reports ∧
      ∃ r0 r1 r2 r3, p = split48 ans.serial ++ [ans.count, r0, r1, r2, r3] := by
  constructor
  · intro h
    unfold readStatus at h
    split at h
    · cases h; exact ⟨rfl, _, _, _, _, by rw [split48_join48]; rfl⟩
    · cases h
  · rintro ⟨rfl, r0, r1, r2, r3, rfl⟩
    simp only [split48, List.cons_append, List.nil_append, readStatus, join48_split48]

/-- What the line engine takes as the answer of a STATUS: a good frame from the address with the code of STATUS plus 0x80
and LEN 11, the serial held for the address and a slot count in 1..4 (R136, R137). -/
theorem statusAnswer_eq_some {a : AddrNo} {frame : List Byte} {reports : Vector SlotReport 4} {s : State}
    {ans : StatusAnswer} : statusAnswer a frame reports s = some ans ↔ ans.reports = reports ∧
      (∃ r0 r1 r2 r3, openLineFrame frame = some (addrByte a, 0x84, split48 ans.serial ++ [ans.count, r0, r1, r2, r3])) ∧
      (∃ e, s.entry a = some e ∧ e.serial = ans.serial) ∧ 1 ≤ ans.count.toNat ∧ ans.count.toNat ≤ 4 := by
  have hp (p : List Byte) : answerPayload a codeStatus frame = some p ↔ openLineFrame frame = some (addrByte a, 0x84, p) := by
    have hc : codeStatus + 0x80 = 0x84 := rfl
    unfold answerPayload; rw [hc]
    split
    · split <;> simp_all
    · simp_all
  simp only [statusAnswer, Option.filter_eq_some_iff, Option.bind_eq_some_iff, hp, readStatus_eq_some, statusFits,
    Option.any_eq_true, Bool.and_eq_true, decide_eq_true_eq]
  constructor
  · rintro ⟨⟨p, ho, hr, r0, r1, r2, r3, rfl⟩, ⟨he, h1⟩, h4⟩
    exact ⟨hr, ⟨_, _, _, _, ho⟩, he, h1, h4⟩
  · rintro ⟨hr, ⟨r0, r1, r2, r3, ho⟩, he, h1, h4⟩
    exact ⟨⟨_, ho, hr, _, _, _, _, rfl⟩, ⟨he, h1⟩, h4⟩

end Sys2Proof.Machine
end

