-- ==== Sys2Proof/Laws/Tables.lean ====
section
/-! SUPPORT. Reading after writing in a fixed table, and searching one. -/

namespace Sys2Proof.Machine

variable {α β : Type} {n : Nat}

@[simp] theorem look_put_same (v : Vector α n) (i : Fin n) (x : α) : look (put v i x) i = x := by
  simp [look, put]

theorem look_put_other (v : Vector α n) (i j : Fin n) (x : α) (h : j ≠ i) : look (put v i x) j = look v j := by
  have : i.val ≠ j.val := fun e => h (Fin.ext e.symm)
  simp [look, put, this]

theorem look_put (v : Vector α n) (i j : Fin n) (x : α) :
    look (put v i x) j = if j = i then x else look v j := by
  by_cases h : j = i
  · subst h; simp
  · simp [h, look_put_other]

@[simp] theorem put_look (v : Vector α n) (i : Fin n) : put v i (look v i) = v := by
  simp [put, look]

@[simp] theorem put_put (v : Vector α n) (i : Fin n) (x y : α) : put (put v i x) i y = put v i y := by
  simp [put]

@[simp] theorem look_mapAll (f : α → α) (v : Vector α n) (i : Fin n) : look (mapAll f v) i = f (look v i) := by
  cases v with
  | mk a h => simp [look, mapAll]

@[simp] theorem look_replicate (x : α) (i : Fin n) : look (Vector.replicate n x) i = x := by
  simp [look]

/-- Two tables with the same places are the same table. -/
theorem table_ext (v w : Vector α n) (h : ∀ i, look v i = look w i) : v = w := by
  apply Vector.ext
  intro i hi
  exact h ⟨i, hi⟩

/-- The lowest index that meets a condition meets it, and no lower one does. -/
theorem lowest_eq_some {p : Fin n → Bool} {i : Fin n} (h : lowest p = some i) :
    p i = true ∧ ∀ j, j < i → p j = false := by
  unfold lowest indexes at h
  rw [List.find?_eq_some_iff_append] at h
  obtain ⟨hp, as, bs, he, hn⟩ := h
  refine ⟨hp, fun j hj => ?_⟩
  have hs : List.Pairwise (· < ·) (as ++ i :: bs) := he ▸ List.pairwise_lt_finRange n
  have hm : j ∈ as ++ i :: bs := he ▸ List.mem_finRange j
  rcases List.mem_append.1 hm with h1 | h1
  · simpa using hn j h1
  · rcases List.mem_cons.1 h1 with h2 | h2
    · exact absurd h2 (Fin.ne_of_lt hj)
    · have := (List.pairwise_append.1 hs).2.1
      have := List.rel_of_pairwise_cons this h2
      exact absurd hj (Fin.not_lt.2 (Fin.le_of_lt this))

/-- No index meets a condition where `lowest` finds none. -/
theorem lowest_eq_none {p : Fin n → Bool} : lowest p = none ↔ ∀ i, p i = false := by
  simp [lowest, indexes]

/-- An index that meets a condition while no lower one does is the lowest. -/
theorem lowest_of_first {p : Fin n → Bool} {i : Fin n} (hi : p i = true) (hn : ∀ j, j < i → p j = false) :
    lowest p = some i := by
  cases h : lowest p with
  | none => simp [lowest_eq_none.1 h i] at hi
  | some k =>
    obtain ⟨hk, hlow⟩ := lowest_eq_some h
    rcases lt_trichotomy k i with h1 | h1 | h1
    · simp [hn k h1] at hk
    · rw [h1]
    · simp [hlow i h1] at hi

end Sys2Proof.Machine
end

