-- ==== Sys2Proof/Laws/State.lean ====
section
/-! SUPPORT. What each update of one part of the state leaves of the others, and what it makes of its own: one lemma per
field per update, each true by computation. -/

namespace Sys2Proof.Machine

variable (s : State)

section
variable (f : Retained → Retained)

@[simp] theorem State.onRet_pending : (s.onRet f).pending = s.pending := rfl
@[simp] theorem State.onRet_vdd : (s.onRet f).vdd = s.vdd := rfl
@[simp] theorem State.onRet_vbk : (s.onRet f).vbk = s.vbk := rfl
@[simp] theorem State.onRet_marker : (s.onRet f).marker = s.marker := rfl
@[simp] theorem State.onRet_freeCount : (s.onRet f).freeCount = s.freeCount := rfl
@[simp] theorem State.onRet_ret : (s.onRet f).ret = f s.ret := rfl
@[simp] theorem State.onRet_main : (s.onRet f).main = s.main := rfl

end

section
variable (f : Main → Main)

@[simp] theorem State.onMain_pending : (s.onMain f).pending = s.pending := rfl
@[simp] theorem State.onMain_vdd : (s.onMain f).vdd = s.vdd := rfl
@[simp] theorem State.onMain_vbk : (s.onMain f).vbk = s.vbk := rfl
@[simp] theorem State.onMain_marker : (s.onMain f).marker = s.marker := rfl
@[simp] theorem State.onMain_freeCount : (s.onMain f).freeCount = s.freeCount := rfl
@[simp] theorem State.onMain_ret : (s.onMain f).ret = s.ret := rfl
@[simp] theorem State.onMain_main : (s.onMain f).main = f s.main := rfl

end

section
variable (f : HostLink → HostLink)

@[simp] theorem State.onHost_pending : (s.onHost f).pending = s.pending := rfl
@[simp] theorem State.onHost_vdd : (s.onHost f).vdd = s.vdd := rfl
@[simp] theorem State.onHost_vbk : (s.onHost f).vbk = s.vbk := rfl
@[simp] theorem State.onHost_marker : (s.onHost f).marker = s.marker := rfl
@[simp] theorem State.onHost_freeCount : (s.onHost f).freeCount = s.freeCount := rfl
@[simp] theorem State.onHost_ret : (s.onHost f).ret = s.ret := rfl
@[simp] theorem State.onHost_main_host : (s.onHost f).main.host = f s.main.host := rfl
@[simp] theorem State.onHost_main_line : (s.onHost f).main.line = s.main.line := rfl
@[simp] theorem State.onHost_main_sched : (s.onHost f).main.sched = s.main.sched := rfl
@[simp] theorem State.onHost_main_slots : (s.onHost f).main.slots = s.main.slots := rfl
@[simp] theorem State.onHost_main_posting : (s.onHost f).main.posting = s.main.posting := rfl
@[simp] theorem State.onHost_main_candidates : (s.onHost f).main.candidates = s.main.candidates := rfl
@[simp] theorem State.onHost_main_returns : (s.onHost f).main.returns = s.main.returns := rfl

end

section
variable (f : Line → Line)

@[simp] theorem State.onLine_pending : (s.onLine f).pending = s.pending := rfl
@[simp] theorem State.onLine_vdd : (s.onLine f).vdd = s.vdd := rfl
@[simp] theorem State.onLine_vbk : (s.onLine f).vbk = s.vbk := rfl
@[simp] theorem State.onLine_marker : (s.onLine f).marker = s.marker := rfl
@[simp] theorem State.onLine_freeCount : (s.onLine f).freeCount = s.freeCount := rfl
@[simp] theorem State.onLine_ret : (s.onLine f).ret = s.ret := rfl
@[simp] theorem State.onLine_main_host : (s.onLine f).main.host = s.main.host := rfl
@[simp] theorem State.onLine_main_line : (s.onLine f).main.line = f s.main.line := rfl
@[simp] theorem State.onLine_main_sched : (s.onLine f).main.sched = s.main.sched := rfl
@[simp] theorem State.onLine_main_slots : (s.onLine f).main.slots = s.main.slots := rfl
@[simp] theorem State.onLine_main_posting : (s.onLine f).main.posting = s.main.posting := rfl
@[simp] theorem State.onLine_main_candidates : (s.onLine f).main.candidates = s.main.candidates := rfl
@[simp] theorem State.onLine_main_returns : (s.onLine f).main.returns = s.main.returns := rfl

end

section
variable (f : Scheduler → Scheduler)

@[simp] theorem State.onSched_pending : (s.onSched f).pending = s.pending := rfl
@[simp] theorem State.onSched_vdd : (s.onSched f).vdd = s.vdd := rfl
@[simp] theorem State.onSched_vbk : (s.onSched f).vbk = s.vbk := rfl
@[simp] theorem State.onSched_marker : (s.onSched f).marker = s.marker := rfl
@[simp] theorem State.onSched_freeCount : (s.onSched f).freeCount = s.freeCount := rfl
@[simp] theorem State.onSched_ret : (s.onSched f).ret = s.ret := rfl
@[simp] theorem State.onSched_main_host : (s.onSched f).main.host = s.main.host := rfl
@[simp] theorem State.onSched_main_line : (s.onSched f).main.line = s.main.line := rfl
@[simp] theorem State.onSched_main_sched : (s.onSched f).main.sched = f s.main.sched := rfl
@[simp] theorem State.onSched_main_slots : (s.onSched f).main.slots = s.main.slots := rfl
@[simp] theorem State.onSched_main_posting : (s.onSched f).main.posting = s.main.posting := rfl
@[simp] theorem State.onSched_main_candidates : (s.onSched f).main.candidates = s.main.candidates := rfl
@[simp] theorem State.onSched_main_returns : (s.onSched f).main.returns = s.main.returns := rfl

end

section
variable (f : Power → Power)

@[simp] theorem State.onPower_pending : (s.onPower f).pending = s.pending := rfl
@[simp] theorem State.onPower_vdd : (s.onPower f).vdd = s.vdd := rfl
@[simp] theorem State.onPower_vbk : (s.onPower f).vbk = s.vbk := rfl
@[simp] theorem State.onPower_marker : (s.onPower f).marker = s.marker := rfl
@[simp] theorem State.onPower_freeCount : (s.onPower f).freeCount = s.freeCount := rfl
@[simp] theorem State.onPower_ret : (s.onPower f).ret = s.ret := rfl
@[simp] theorem State.onPower_main_host : (s.onPower f).main.host = s.main.host := rfl
@[simp] theorem State.onPower_main_sched : (s.onPower f).main.sched = s.main.sched := rfl
@[simp] theorem State.onPower_main_slots : (s.onPower f).main.slots = s.main.slots := rfl
@[simp] theorem State.onPower_main_posting : (s.onPower f).main.posting = s.main.posting := rfl
@[simp] theorem State.onPower_main_candidates : (s.onPower f).main.candidates = s.main.candidates := rfl
@[simp] theorem State.onPower_main_returns : (s.onPower f).main.returns = s.main.returns := rfl
@[simp] theorem State.onPower_main_line_table : (s.onPower f).main.line.table = s.main.line.table := rfl
@[simp] theorem State.onPower_main_line_withheld : (s.onPower f).main.line.withheld = s.main.line.withheld := rfl
@[simp] theorem State.onPower_main_line_census : (s.onPower f).main.line.census = s.main.line.census := rfl
@[simp] theorem State.onPower_main_line_attention : (s.onPower f).main.line.attention = s.main.line.attention := rfl
@[simp] theorem State.onPower_main_line_power : (s.onPower f).main.line.power = f s.main.line.power := rfl
@[simp] theorem State.onPower_main_line_turn : (s.onPower f).main.line.turn = s.main.line.turn := rfl
@[simp] theorem State.onPower_main_line_lastQuery : (s.onPower f).main.line.lastQuery = s.main.line.lastQuery := rfl
@[simp] theorem State.onPower_main_line_dropDue : (s.onPower f).main.line.dropDue = s.main.line.dropDue := rfl

end

section
variable (f : Census → Census)

@[simp] theorem State.onCensus_pending : (s.onCensus f).pending = s.pending := rfl
@[simp] theorem State.onCensus_vdd : (s.onCensus f).vdd = s.vdd := rfl
@[simp] theorem State.onCensus_vbk : (s.onCensus f).vbk = s.vbk := rfl
@[simp] theorem State.onCensus_marker : (s.onCensus f).marker = s.marker := rfl
@[simp] theorem State.onCensus_freeCount : (s.onCensus f).freeCount = s.freeCount := rfl
@[simp] theorem State.onCensus_ret : (s.onCensus f).ret = s.ret := rfl
@[simp] theorem State.onCensus_main_host : (s.onCensus f).main.host = s.main.host := rfl
@[simp] theorem State.onCensus_main_sched : (s.onCensus f).main.sched = s.main.sched := rfl
@[simp] theorem State.onCensus_main_slots : (s.onCensus f).main.slots = s.main.slots := rfl
@[simp] theorem State.onCensus_main_posting : (s.onCensus f).main.posting = s.main.posting := rfl
@[simp] theorem State.onCensus_main_candidates : (s.onCensus f).main.candidates = s.main.candidates := rfl
@[simp] theorem State.onCensus_main_returns : (s.onCensus f).main.returns = s.main.returns := rfl
@[simp] theorem State.onCensus_main_line_table : (s.onCensus f).main.line.table = s.main.line.table := rfl
@[simp] theorem State.onCensus_main_line_withheld : (s.onCensus f).main.line.withheld = s.main.line.withheld := rfl
@[simp] theorem State.onCensus_main_line_census : (s.onCensus f).main.line.census = f s.main.line.census := rfl
@[simp] theorem State.onCensus_main_line_attention : (s.onCensus f).main.line.attention = s.main.line.attention := rfl
@[simp] theorem State.onCensus_main_line_power : (s.onCensus f).main.line.power = s.main.line.power := rfl
@[simp] theorem State.onCensus_main_line_turn : (s.onCensus f).main.line.turn = s.main.line.turn := rfl
@[simp] theorem State.onCensus_main_line_lastQuery : (s.onCensus f).main.line.lastQuery = s.main.line.lastQuery := rfl
@[simp] theorem State.onCensus_main_line_dropDue : (s.onCensus f).main.line.dropDue = s.main.line.dropDue := rfl

end

section
variable (c : ChamberNo) (f : Chamber → Chamber)

@[simp] theorem State.onChamber_pending : (s.onChamber c f).pending = s.pending := rfl
@[simp] theorem State.onChamber_vdd : (s.onChamber c f).vdd = s.vdd := rfl
@[simp] theorem State.onChamber_vbk : (s.onChamber c f).vbk = s.vbk := rfl
@[simp] theorem State.onChamber_marker : (s.onChamber c f).marker = s.marker := rfl
@[simp] theorem State.onChamber_freeCount : (s.onChamber c f).freeCount = s.freeCount := rfl
@[simp] theorem State.onChamber_main : (s.onChamber c f).main = s.main := rfl
@[simp] theorem State.onChamber_ret_cards : (s.onChamber c f).ret.cards = s.ret.cards := rfl
@[simp] theorem State.onChamber_ret_accounts : (s.onChamber c f).ret.accounts = s.ret.accounts := rfl
@[simp] theorem State.onChamber_ret_templates : (s.onChamber c f).ret.templates = s.ret.templates := rfl
@[simp] theorem State.onChamber_ret_journal : (s.onChamber c f).ret.journal = s.ret.journal := rfl
@[simp] theorem State.onChamber_ret_nextSeq : (s.onChamber c f).ret.nextSeq = s.ret.nextSeq := rfl
@[simp] theorem State.onChamber_ret_sessions : (s.onChamber c f).ret.sessions = s.ret.sessions := rfl
@[simp] theorem State.onChamber_ret_chambers : (s.onChamber c f).ret.chambers = put s.ret.chambers c (f (look s.ret.chambers c)) := rfl
@[simp] theorem State.onChamber_ret_siteMap : (s.onChamber c f).ret.siteMap = s.ret.siteMap := rfl
@[simp] theorem State.onChamber_ret_profiles : (s.onChamber c f).ret.profiles = s.ret.profiles := rfl
@[simp] theorem State.onChamber_ret_stations : (s.onChamber c f).ret.stations = s.ret.stations := rfl
@[simp] theorem State.onChamber_ret_settings : (s.onChamber c f).ret.settings = s.ret.settings := rfl
@[simp] theorem State.onChamber_ret_round : (s.onChamber c f).ret.round = s.ret.round := rfl
@[simp] theorem State.onChamber_ret_visits : (s.onChamber c f).ret.visits = s.ret.visits := rfl
@[simp] theorem State.onChamber_ret_summaries : (s.onChamber c f).ret.summaries = s.ret.summaries := rfl
@[simp] theorem State.onChamber_ret_clock : (s.onChamber c f).ret.clock = s.ret.clock := rfl
@[simp] theorem State.onChamber_ret_lastStart : (s.onChamber c f).ret.lastStart = s.ret.lastStart := rfl

end

section
variable (c : ChamberNo) (f : Estimate → Estimate)

@[simp] theorem State.onEstimate_pending : (s.onEstimate c f).pending = s.pending := rfl
@[simp] theorem State.onEstimate_vdd : (s.onEstimate c f).vdd = s.vdd := rfl
@[simp] theorem State.onEstimate_vbk : (s.onEstimate c f).vbk = s.vbk := rfl
@[simp] theorem State.onEstimate_marker : (s.onEstimate c f).marker = s.marker := rfl
@[simp] theorem State.onEstimate_freeCount : (s.onEstimate c f).freeCount = s.freeCount := rfl
@[simp] theorem State.onEstimate_main : (s.onEstimate c f).main = s.main := rfl
@[simp] theorem State.onEstimate_ret_cards : (s.onEstimate c f).ret.cards = s.ret.cards := rfl
@[simp] theorem State.onEstimate_ret_accounts : (s.onEstimate c f).ret.accounts = s.ret.accounts := rfl
@[simp] theorem State.onEstimate_ret_templates : (s.onEstimate c f).ret.templates = s.ret.templates := rfl
@[simp] theorem State.onEstimate_ret_journal : (s.onEstimate c f).ret.journal = s.ret.journal := rfl
@[simp] theorem State.onEstimate_ret_nextSeq : (s.onEstimate c f).ret.nextSeq = s.ret.nextSeq := rfl
@[simp] theorem State.onEstimate_ret_sessions : (s.onEstimate c f).ret.sessions = s.ret.sessions := rfl
@[simp] theorem State.onEstimate_ret_siteMap : (s.onEstimate c f).ret.siteMap = s.ret.siteMap := rfl
@[simp] theorem State.onEstimate_ret_profiles : (s.onEstimate c f).ret.profiles = s.ret.profiles := rfl
@[simp] theorem State.onEstimate_ret_stations : (s.onEstimate c f).ret.stations = s.ret.stations := rfl
@[simp] theorem State.onEstimate_ret_settings : (s.onEstimate c f).ret.settings = s.ret.settings := rfl
@[simp] theorem State.onEstimate_ret_round : (s.onEstimate c f).ret.round = s.ret.round := rfl
@[simp] theorem State.onEstimate_ret_visits : (s.onEstimate c f).ret.visits = s.ret.visits := rfl
@[simp] theorem State.onEstimate_ret_summaries : (s.onEstimate c f).ret.summaries = s.ret.summaries := rfl
@[simp] theorem State.onEstimate_ret_clock : (s.onEstimate c f).ret.clock = s.ret.clock := rfl
@[simp] theorem State.onEstimate_ret_lastStart : (s.onEstimate c f).ret.lastStart = s.ret.lastStart := rfl

end

section
variable (st : StationNo) (f : Station → Station)

@[simp] theorem State.onStation_pending : (s.onStation st f).pending = s.pending := rfl
@[simp] theorem State.onStation_vdd : (s.onStation st f).vdd = s.vdd := rfl
@[simp] theorem State.onStation_vbk : (s.onStation st f).vbk = s.vbk := rfl
@[simp] theorem State.onStation_marker : (s.onStation st f).marker = s.marker := rfl
@[simp] theorem State.onStation_freeCount : (s.onStation st f).freeCount = s.freeCount := rfl
@[simp] theorem State.onStation_main : (s.onStation st f).main = s.main := rfl
@[simp] theorem State.onStation_ret_cards : (s.onStation st f).ret.cards = s.ret.cards := rfl
@[simp] theorem State.onStation_ret_accounts : (s.onStation st f).ret.accounts = s.ret.accounts := rfl
@[simp] theorem State.onStation_ret_templates : (s.onStation st f).ret.templates = s.ret.templates := rfl
@[simp] theorem State.onStation_ret_journal : (s.onStation st f).ret.journal = s.ret.journal := rfl
@[simp] theorem State.onStation_ret_nextSeq : (s.onStation st f).ret.nextSeq = s.ret.nextSeq := rfl
@[simp] theorem State.onStation_ret_sessions : (s.onStation st f).ret.sessions = s.ret.sessions := rfl
@[simp] theorem State.onStation_ret_chambers : (s.onStation st f).ret.chambers = s.ret.chambers := rfl
@[simp] theorem State.onStation_ret_siteMap : (s.onStation st f).ret.siteMap = s.ret.siteMap := rfl
@[simp] theorem State.onStation_ret_profiles : (s.onStation st f).ret.profiles = s.ret.profiles := rfl
@[simp] theorem State.onStation_ret_stations : (s.onStation st f).ret.stations = put s.ret.stations st (f (look s.ret.stations st)) := rfl
@[simp] theorem State.onStation_ret_settings : (s.onStation st f).ret.settings = s.ret.settings := rfl
@[simp] theorem State.onStation_ret_round : (s.onStation st f).ret.round = s.ret.round := rfl
@[simp] theorem State.onStation_ret_visits : (s.onStation st f).ret.visits = s.ret.visits := rfl
@[simp] theorem State.onStation_ret_summaries : (s.onStation st f).ret.summaries = s.ret.summaries := rfl
@[simp] theorem State.onStation_ret_clock : (s.onStation st f).ret.clock = s.ret.clock := rfl
@[simp] theorem State.onStation_ret_lastStart : (s.onStation st f).ret.lastStart = s.ret.lastStart := rfl

end

section
variable (a : AccountNo) (f : Account → Account)

@[simp] theorem State.onAccount_pending : (s.onAccount a f).pending = s.pending := rfl
@[simp] theorem State.onAccount_vdd : (s.onAccount a f).vdd = s.vdd := rfl
@[simp] theorem State.onAccount_vbk : (s.onAccount a f).vbk = s.vbk := rfl
@[simp] theorem State.onAccount_marker : (s.onAccount a f).marker = s.marker := rfl
@[simp] theorem State.onAccount_freeCount : (s.onAccount a f).freeCount = s.freeCount := rfl
@[simp] theorem State.onAccount_main : (s.onAccount a f).main = s.main := rfl
@[simp] theorem State.onAccount_ret_cards : (s.onAccount a f).ret.cards = s.ret.cards := rfl
@[simp] theorem State.onAccount_ret_accounts : (s.onAccount a f).ret.accounts = put s.ret.accounts a (f (look s.ret.accounts a)) := rfl
@[simp] theorem State.onAccount_ret_templates : (s.onAccount a f).ret.templates = s.ret.templates := rfl
@[simp] theorem State.onAccount_ret_journal : (s.onAccount a f).ret.journal = s.ret.journal := rfl
@[simp] theorem State.onAccount_ret_nextSeq : (s.onAccount a f).ret.nextSeq = s.ret.nextSeq := rfl
@[simp] theorem State.onAccount_ret_sessions : (s.onAccount a f).ret.sessions = s.ret.sessions := rfl
@[simp] theorem State.onAccount_ret_chambers : (s.onAccount a f).ret.chambers = s.ret.chambers := rfl
@[simp] theorem State.onAccount_ret_siteMap : (s.onAccount a f).ret.siteMap = s.ret.siteMap := rfl
@[simp] theorem State.onAccount_ret_profiles : (s.onAccount a f).ret.profiles = s.ret.profiles := rfl
@[simp] theorem State.onAccount_ret_stations : (s.onAccount a f).ret.stations = s.ret.stations := rfl
@[simp] theorem State.onAccount_ret_settings : (s.onAccount a f).ret.settings = s.ret.settings := rfl
@[simp] theorem State.onAccount_ret_round : (s.onAccount a f).ret.round = s.ret.round := rfl
@[simp] theorem State.onAccount_ret_visits : (s.onAccount a f).ret.visits = s.ret.visits := rfl
@[simp] theorem State.onAccount_ret_summaries : (s.onAccount a f).ret.summaries = s.ret.summaries := rfl
@[simp] theorem State.onAccount_ret_clock : (s.onAccount a f).ret.clock = s.ret.clock := rfl
@[simp] theorem State.onAccount_ret_lastStart : (s.onAccount a f).ret.lastStart = s.ret.lastStart := rfl

end

section
variable (f : Clock → Clock)

@[simp] theorem State.onClock_pending : (s.onClock f).pending = s.pending := rfl
@[simp] theorem State.onClock_vdd : (s.onClock f).vdd = s.vdd := rfl
@[simp] theorem State.onClock_vbk : (s.onClock f).vbk = s.vbk := rfl
@[simp] theorem State.onClock_marker : (s.onClock f).marker = s.marker := rfl
@[simp] theorem State.onClock_freeCount : (s.onClock f).freeCount = s.freeCount := rfl
@[simp] theorem State.onClock_main : (s.onClock f).main = s.main := rfl
@[simp] theorem State.onClock_ret_cards : (s.onClock f).ret.cards = s.ret.cards := rfl
@[simp] theorem State.onClock_ret_accounts : (s.onClock f).ret.accounts = s.ret.accounts := rfl
@[simp] theorem State.onClock_ret_templates : (s.onClock f).ret.templates = s.ret.templates := rfl
@[simp] theorem State.onClock_ret_journal : (s.onClock f).ret.journal = s.ret.journal := rfl
@[simp] theorem State.onClock_ret_nextSeq : (s.onClock f).ret.nextSeq = s.ret.nextSeq := rfl
@[simp] theorem State.onClock_ret_sessions : (s.onClock f).ret.sessions = s.ret.sessions := rfl
@[simp] theorem State.onClock_ret_chambers : (s.onClock f).ret.chambers = s.ret.chambers := rfl
@[simp] theorem State.onClock_ret_siteMap : (s.onClock f).ret.siteMap = s.ret.siteMap := rfl
@[simp] theorem State.onClock_ret_profiles : (s.onClock f).ret.profiles = s.ret.profiles := rfl
@[simp] theorem State.onClock_ret_stations : (s.onClock f).ret.stations = s.ret.stations := rfl
@[simp] theorem State.onClock_ret_settings : (s.onClock f).ret.settings = s.ret.settings := rfl
@[simp] theorem State.onClock_ret_round : (s.onClock f).ret.round = s.ret.round := rfl
@[simp] theorem State.onClock_ret_visits : (s.onClock f).ret.visits = s.ret.visits := rfl
@[simp] theorem State.onClock_ret_summaries : (s.onClock f).ret.summaries = s.ret.summaries := rfl
@[simp] theorem State.onClock_ret_clock : (s.onClock f).ret.clock = f s.ret.clock := rfl
@[simp] theorem State.onClock_ret_lastStart : (s.onClock f).ret.lastStart = s.ret.lastStart := rfl

end

section
variable (c : ChamberNo) (o : Option Session)

@[simp] theorem State.setSession_pending : (s.setSession c o).pending = s.pending := rfl
@[simp] theorem State.setSession_vdd : (s.setSession c o).vdd = s.vdd := rfl
@[simp] theorem State.setSession_vbk : (s.setSession c o).vbk = s.vbk := rfl
@[simp] theorem State.setSession_marker : (s.setSession c o).marker = s.marker := rfl
@[simp] theorem State.setSession_freeCount : (s.setSession c o).freeCount = s.freeCount := rfl
@[simp] theorem State.setSession_main : (s.setSession c o).main = s.main := rfl
@[simp] theorem State.setSession_ret_cards : (s.setSession c o).ret.cards = s.ret.cards := rfl
@[simp] theorem State.setSession_ret_accounts : (s.setSession c o).ret.accounts = s.ret.accounts := rfl
@[simp] theorem State.setSession_ret_templates : (s.setSession c o).ret.templates = s.ret.templates := rfl
@[simp] theorem State.setSession_ret_journal : (s.setSession c o).ret.journal = s.ret.journal := rfl
@[simp] theorem State.setSession_ret_nextSeq : (s.setSession c o).ret.nextSeq = s.ret.nextSeq := rfl
@[simp] theorem State.setSession_ret_sessions : (s.setSession c o).ret.sessions = put s.ret.sessions c o := rfl
@[simp] theorem State.setSession_ret_chambers : (s.setSession c o).ret.chambers = s.ret.chambers := rfl
@[simp] theorem State.setSession_ret_siteMap : (s.setSession c o).ret.siteMap = s.ret.siteMap := rfl
@[simp] theorem State.setSession_ret_profiles : (s.setSession c o).ret.profiles = s.ret.profiles := rfl
@[simp] theorem State.setSession_ret_stations : (s.setSession c o).ret.stations = s.ret.stations := rfl
@[simp] theorem State.setSession_ret_settings : (s.setSession c o).ret.settings = s.ret.settings := rfl
@[simp] theorem State.setSession_ret_round : (s.setSession c o).ret.round = s.ret.round := rfl
@[simp] theorem State.setSession_ret_visits : (s.setSession c o).ret.visits = s.ret.visits := rfl
@[simp] theorem State.setSession_ret_summaries : (s.setSession c o).ret.summaries = s.ret.summaries := rfl
@[simp] theorem State.setSession_ret_clock : (s.setSession c o).ret.clock = s.ret.clock := rfl
@[simp] theorem State.setSession_ret_lastStart : (s.setSession c o).ret.lastStart = s.ret.lastStart := rfl

end

section
variable (l : List Entry)

@[simp] theorem State.setRound_pending : (s.setRound l).pending = s.pending := rfl
@[simp] theorem State.setRound_vdd : (s.setRound l).vdd = s.vdd := rfl
@[simp] theorem State.setRound_vbk : (s.setRound l).vbk = s.vbk := rfl
@[simp] theorem State.setRound_marker : (s.setRound l).marker = s.marker := rfl
@[simp] theorem State.setRound_freeCount : (s.setRound l).freeCount = s.freeCount := rfl
@[simp] theorem State.setRound_main : (s.setRound l).main = s.main := rfl
@[simp] theorem State.setRound_ret_cards : (s.setRound l).ret.cards = s.ret.cards := rfl
@[simp] theorem State.setRound_ret_accounts : (s.setRound l).ret.accounts = s.ret.accounts := rfl
@[simp] theorem State.setRound_ret_templates : (s.setRound l).ret.templates = s.ret.templates := rfl
@[simp] theorem State.setRound_ret_journal : (s.setRound l).ret.journal = s.ret.journal := rfl
@[simp] theorem State.setRound_ret_nextSeq : (s.setRound l).ret.nextSeq = s.ret.nextSeq := rfl
@[simp] theorem State.setRound_ret_sessions : (s.setRound l).ret.sessions = s.ret.sessions := rfl
@[simp] theorem State.setRound_ret_chambers : (s.setRound l).ret.chambers = s.ret.chambers := rfl
@[simp] theorem State.setRound_ret_siteMap : (s.setRound l).ret.siteMap = s.ret.siteMap := rfl
@[simp] theorem State.setRound_ret_profiles : (s.setRound l).ret.profiles = s.ret.profiles := rfl
@[simp] theorem State.setRound_ret_stations : (s.setRound l).ret.stations = s.ret.stations := rfl
@[simp] theorem State.setRound_ret_settings : (s.setRound l).ret.settings = s.ret.settings := rfl
@[simp] theorem State.setRound_ret_round : (s.setRound l).ret.round = l := rfl
@[simp] theorem State.setRound_ret_visits : (s.setRound l).ret.visits = s.ret.visits := rfl
@[simp] theorem State.setRound_ret_summaries : (s.setRound l).ret.summaries = s.ret.summaries := rfl
@[simp] theorem State.setRound_ret_clock : (s.setRound l).ret.clock = s.ret.clock := rfl
@[simp] theorem State.setRound_ret_lastStart : (s.setRound l).ret.lastStart = s.ret.lastStart := rfl

end

section
variable (v : Vector (Option Visit) 4)

@[simp] theorem State.setVisits_pending : (s.setVisits v).pending = s.pending := rfl
@[simp] theorem State.setVisits_vdd : (s.setVisits v).vdd = s.vdd := rfl
@[simp] theorem State.setVisits_vbk : (s.setVisits v).vbk = s.vbk := rfl
@[simp] theorem State.setVisits_marker : (s.setVisits v).marker = s.marker := rfl
@[simp] theorem State.setVisits_freeCount : (s.setVisits v).freeCount = s.freeCount := rfl
@[simp] theorem State.setVisits_main : (s.setVisits v).main = s.main := rfl
@[simp] theorem State.setVisits_ret_cards : (s.setVisits v).ret.cards = s.ret.cards := rfl
@[simp] theorem State.setVisits_ret_accounts : (s.setVisits v).ret.accounts = s.ret.accounts := rfl
@[simp] theorem State.setVisits_ret_templates : (s.setVisits v).ret.templates = s.ret.templates := rfl
@[simp] theorem State.setVisits_ret_journal : (s.setVisits v).ret.journal = s.ret.journal := rfl
@[simp] theorem State.setVisits_ret_nextSeq : (s.setVisits v).ret.nextSeq = s.ret.nextSeq := rfl
@[simp] theorem State.setVisits_ret_sessions : (s.setVisits v).ret.sessions = s.ret.sessions := rfl
@[simp] theorem State.setVisits_ret_chambers : (s.setVisits v).ret.chambers = s.ret.chambers := rfl
@[simp] theorem State.setVisits_ret_siteMap : (s.setVisits v).ret.siteMap = s.ret.siteMap := rfl
@[simp] theorem State.setVisits_ret_profiles : (s.setVisits v).ret.profiles = s.ret.profiles := rfl
@[simp] theorem State.setVisits_ret_stations : (s.setVisits v).ret.stations = s.ret.stations := rfl
@[simp] theorem State.setVisits_ret_settings : (s.setVisits v).ret.settings = s.ret.settings := rfl
@[simp] theorem State.setVisits_ret_round : (s.setVisits v).ret.round = s.ret.round := rfl
@[simp] theorem State.setVisits_ret_visits : (s.setVisits v).ret.visits = v := rfl
@[simp] theorem State.setVisits_ret_summaries : (s.setVisits v).ret.summaries = s.ret.summaries := rfl
@[simp] theorem State.setVisits_ret_clock : (s.setVisits v).ret.clock = s.ret.clock := rfl
@[simp] theorem State.setVisits_ret_lastStart : (s.setVisits v).ret.lastStart = s.ret.lastStart := rfl

end

section
variable (st : StationNo) (sl : SlotNo) (o : Option ChamberNo)

@[simp] theorem State.setMapped_pending : (s.setMapped st sl o).pending = s.pending := rfl
@[simp] theorem State.setMapped_vdd : (s.setMapped st sl o).vdd = s.vdd := rfl
@[simp] theorem State.setMapped_vbk : (s.setMapped st sl o).vbk = s.vbk := rfl
@[simp] theorem State.setMapped_marker : (s.setMapped st sl o).marker = s.marker := rfl
@[simp] theorem State.setMapped_freeCount : (s.setMapped st sl o).freeCount = s.freeCount := rfl
@[simp] theorem State.setMapped_main : (s.setMapped st sl o).main = s.main := rfl
@[simp] theorem State.setMapped_ret_cards : (s.setMapped st sl o).ret.cards = s.ret.cards := rfl
@[simp] theorem State.setMapped_ret_accounts : (s.setMapped st sl o).ret.accounts = s.ret.accounts := rfl
@[simp] theorem State.setMapped_ret_templates : (s.setMapped st sl o).ret.templates = s.ret.templates := rfl
@[simp] theorem State.setMapped_ret_journal : (s.setMapped st sl o).ret.journal = s.ret.journal := rfl
@[simp] theorem State.setMapped_ret_nextSeq : (s.setMapped st sl o).ret.nextSeq = s.ret.nextSeq := rfl
@[simp] theorem State.setMapped_ret_sessions : (s.setMapped st sl o).ret.sessions = s.ret.sessions := rfl
@[simp] theorem State.setMapped_ret_chambers : (s.setMapped st sl o).ret.chambers = s.ret.chambers := rfl
@[simp] theorem State.setMapped_ret_siteMap : (s.setMapped st sl o).ret.siteMap = put s.ret.siteMap st (put (look s.ret.siteMap st) sl o) := rfl
@[simp] theorem State.setMapped_ret_profiles : (s.setMapped st sl o).ret.profiles = s.ret.profiles := rfl
@[simp] theorem State.setMapped_ret_stations : (s.setMapped st sl o).ret.stations = s.ret.stations := rfl
@[simp] theorem State.setMapped_ret_settings : (s.setMapped st sl o).ret.settings = s.ret.settings := rfl
@[simp] theorem State.setMapped_ret_round : (s.setMapped st sl o).ret.round = s.ret.round := rfl
@[simp] theorem State.setMapped_ret_visits : (s.setMapped st sl o).ret.visits = s.ret.visits := rfl
@[simp] theorem State.setMapped_ret_summaries : (s.setMapped st sl o).ret.summaries = s.ret.summaries := rfl
@[simp] theorem State.setMapped_ret_clock : (s.setMapped st sl o).ret.clock = s.ret.clock := rfl
@[simp] theorem State.setMapped_ret_lastStart : (s.setMapped st sl o).ret.lastStart = s.ret.lastStart := rfl

end

section
variable (c : ChamberNo) (x : CommandSlot)

@[simp] theorem State.setSlot_pending : (s.setSlot c x).pending = s.pending := rfl
@[simp] theorem State.setSlot_vdd : (s.setSlot c x).vdd = s.vdd := rfl
@[simp] theorem State.setSlot_vbk : (s.setSlot c x).vbk = s.vbk := rfl
@[simp] theorem State.setSlot_marker : (s.setSlot c x).marker = s.marker := rfl
@[simp] theorem State.setSlot_freeCount : (s.setSlot c x).freeCount = s.freeCount := rfl
@[simp] theorem State.setSlot_ret : (s.setSlot c x).ret = s.ret := rfl
@[simp] theorem State.setSlot_main_host : (s.setSlot c x).main.host = s.main.host := rfl
@[simp] theorem State.setSlot_main_line : (s.setSlot c x).main.line = s.main.line := rfl
@[simp] theorem State.setSlot_main_sched : (s.setSlot c x).main.sched = s.main.sched := rfl
@[simp] theorem State.setSlot_main_slots : (s.setSlot c x).main.slots = put s.main.slots c x := rfl
@[simp] theorem State.setSlot_main_posting : (s.setSlot c x).main.posting = s.main.posting := rfl
@[simp] theorem State.setSlot_main_candidates : (s.setSlot c x).main.candidates = s.main.candidates := rfl
@[simp] theorem State.setSlot_main_returns : (s.setSlot c x).main.returns = s.main.returns := rfl

end

section
variable (l : List ChamberNo)

@[simp] theorem State.setPosting_pending : (s.setPosting l).pending = s.pending := rfl
@[simp] theorem State.setPosting_vdd : (s.setPosting l).vdd = s.vdd := rfl
@[simp] theorem State.setPosting_vbk : (s.setPosting l).vbk = s.vbk := rfl
@[simp] theorem State.setPosting_marker : (s.setPosting l).marker = s.marker := rfl
@[simp] theorem State.setPosting_freeCount : (s.setPosting l).freeCount = s.freeCount := rfl
@[simp] theorem State.setPosting_ret : (s.setPosting l).ret = s.ret := rfl
@[simp] theorem State.setPosting_main_host : (s.setPosting l).main.host = s.main.host := rfl
@[simp] theorem State.setPosting_main_line : (s.setPosting l).main.line = s.main.line := rfl
@[simp] theorem State.setPosting_main_sched : (s.setPosting l).main.sched = s.main.sched := rfl
@[simp] theorem State.setPosting_main_slots : (s.setPosting l).main.slots = s.main.slots := rfl
@[simp] theorem State.setPosting_main_posting : (s.setPosting l).main.posting = l := rfl
@[simp] theorem State.setPosting_main_candidates : (s.setPosting l).main.candidates = s.main.candidates := rfl
@[simp] theorem State.setPosting_main_returns : (s.setPosting l).main.returns = s.main.returns := rfl

end

section
variable (c : ChamberNo) (d : Option Deadline)

@[simp] theorem State.setReturn_pending : (s.setReturn c d).pending = s.pending := rfl
@[simp] theorem State.setReturn_vdd : (s.setReturn c d).vdd = s.vdd := rfl
@[simp] theorem State.setReturn_vbk : (s.setReturn c d).vbk = s.vbk := rfl
@[simp] theorem State.setReturn_marker : (s.setReturn c d).marker = s.marker := rfl
@[simp] theorem State.setReturn_freeCount : (s.setReturn c d).freeCount = s.freeCount := rfl
@[simp] theorem State.setReturn_ret : (s.setReturn c d).ret = s.ret := rfl
@[simp] theorem State.setReturn_main_host : (s.setReturn c d).main.host = s.main.host := rfl
@[simp] theorem State.setReturn_main_line : (s.setReturn c d).main.line = s.main.line := rfl
@[simp] theorem State.setReturn_main_sched : (s.setReturn c d).main.sched = s.main.sched := rfl
@[simp] theorem State.setReturn_main_slots : (s.setReturn c d).main.slots = s.main.slots := rfl
@[simp] theorem State.setReturn_main_posting : (s.setReturn c d).main.posting = s.main.posting := rfl
@[simp] theorem State.setReturn_main_candidates : (s.setReturn c d).main.candidates = s.main.candidates := rfl
@[simp] theorem State.setReturn_main_returns : (s.setReturn c d).main.returns = put s.main.returns c d := rfl

end

section
variable (c : ChamberNo) (b : Bool)

@[simp] theorem State.setFlag_pending : (s.setFlag c b).pending = s.pending := rfl
@[simp] theorem State.setFlag_vdd : (s.setFlag c b).vdd = s.vdd := rfl
@[simp] theorem State.setFlag_vbk : (s.setFlag c b).vbk = s.vbk := rfl
@[simp] theorem State.setFlag_marker : (s.setFlag c b).marker = s.marker := rfl
@[simp] theorem State.setFlag_freeCount : (s.setFlag c b).freeCount = s.freeCount := rfl
@[simp] theorem State.setFlag_ret : (s.setFlag c b).ret = s.ret := rfl
@[simp] theorem State.setFlag_main_host : (s.setFlag c b).main.host = s.main.host := rfl
@[simp] theorem State.setFlag_main_line : (s.setFlag c b).main.line = s.main.line := rfl
@[simp] theorem State.setFlag_main_sched : (s.setFlag c b).main.sched = s.main.sched := rfl
@[simp] theorem State.setFlag_main_slots : (s.setFlag c b).main.slots = s.main.slots := rfl
@[simp] theorem State.setFlag_main_posting : (s.setFlag c b).main.posting = s.main.posting := rfl
@[simp] theorem State.setFlag_main_candidates : (s.setFlag c b).main.candidates = put s.main.candidates c b := rfl
@[simp] theorem State.setFlag_main_returns : (s.setFlag c b).main.returns = s.main.returns := rfl

end

section
variable (a : AddrNo) (o : Option LineEntry)

@[simp] theorem State.setEntry_pending : (s.setEntry a o).pending = s.pending := rfl
@[simp] theorem State.setEntry_vdd : (s.setEntry a o).vdd = s.vdd := rfl
@[simp] theorem State.setEntry_vbk : (s.setEntry a o).vbk = s.vbk := rfl
@[simp] theorem State.setEntry_marker : (s.setEntry a o).marker = s.marker := rfl
@[simp] theorem State.setEntry_freeCount : (s.setEntry a o).freeCount = s.freeCount := rfl
@[simp] theorem State.setEntry_ret : (s.setEntry a o).ret = s.ret := rfl
@[simp] theorem State.setEntry_main_host : (s.setEntry a o).main.host = s.main.host := rfl
@[simp] theorem State.setEntry_main_sched : (s.setEntry a o).main.sched = s.main.sched := rfl
@[simp] theorem State.setEntry_main_slots : (s.setEntry a o).main.slots = s.main.slots := rfl
@[simp] theorem State.setEntry_main_posting : (s.setEntry a o).main.posting = s.main.posting := rfl
@[simp] theorem State.setEntry_main_candidates : (s.setEntry a o).main.candidates = s.main.candidates := rfl
@[simp] theorem State.setEntry_main_returns : (s.setEntry a o).main.returns = s.main.returns := rfl
@[simp] theorem State.setEntry_main_line_table : (s.setEntry a o).main.line.table = put s.main.line.table a o := rfl
@[simp] theorem State.setEntry_main_line_withheld : (s.setEntry a o).main.line.withheld = s.main.line.withheld := rfl
@[simp] theorem State.setEntry_main_line_census : (s.setEntry a o).main.line.census = s.main.line.census := rfl
@[simp] theorem State.setEntry_main_line_attention : (s.setEntry a o).main.line.attention = s.main.line.attention := rfl
@[simp] theorem State.setEntry_main_line_power : (s.setEntry a o).main.line.power = s.main.line.power := rfl
@[simp] theorem State.setEntry_main_line_turn : (s.setEntry a o).main.line.turn = s.main.line.turn := rfl
@[simp] theorem State.setEntry_main_line_lastQuery : (s.setEntry a o).main.line.lastQuery = s.main.line.lastQuery := rfl
@[simp] theorem State.setEntry_main_line_dropDue : (s.setEntry a o).main.line.dropDue = s.main.line.dropDue := rfl

end

section
variable (t : Option Turn)

@[simp] theorem State.setTurn_pending : (s.setTurn t).pending = s.pending := rfl
@[simp] theorem State.setTurn_vdd : (s.setTurn t).vdd = s.vdd := rfl
@[simp] theorem State.setTurn_vbk : (s.setTurn t).vbk = s.vbk := rfl
@[simp] theorem State.setTurn_marker : (s.setTurn t).marker = s.marker := rfl
@[simp] theorem State.setTurn_freeCount : (s.setTurn t).freeCount = s.freeCount := rfl
@[simp] theorem State.setTurn_ret : (s.setTurn t).ret = s.ret := rfl
@[simp] theorem State.setTurn_main_host : (s.setTurn t).main.host = s.main.host := rfl
@[simp] theorem State.setTurn_main_sched : (s.setTurn t).main.sched = s.main.sched := rfl
@[simp] theorem State.setTurn_main_slots : (s.setTurn t).main.slots = s.main.slots := rfl
@[simp] theorem State.setTurn_main_posting : (s.setTurn t).main.posting = s.main.posting := rfl
@[simp] theorem State.setTurn_main_candidates : (s.setTurn t).main.candidates = s.main.candidates := rfl
@[simp] theorem State.setTurn_main_returns : (s.setTurn t).main.returns = s.main.returns := rfl
@[simp] theorem State.setTurn_main_line_table : (s.setTurn t).main.line.table = s.main.line.table := rfl
@[simp] theorem State.setTurn_main_line_withheld : (s.setTurn t).main.line.withheld = s.main.line.withheld := rfl
@[simp] theorem State.setTurn_main_line_census : (s.setTurn t).main.line.census = s.main.line.census := rfl
@[simp] theorem State.setTurn_main_line_attention : (s.setTurn t).main.line.attention = s.main.line.attention := rfl
@[simp] theorem State.setTurn_main_line_power : (s.setTurn t).main.line.power = s.main.line.power := rfl
@[simp] theorem State.setTurn_main_line_turn : (s.setTurn t).main.line.turn = t := rfl
@[simp] theorem State.setTurn_main_line_lastQuery : (s.setTurn t).main.line.lastQuery = s.main.line.lastQuery := rfl
@[simp] theorem State.setTurn_main_line_dropDue : (s.setTurn t).main.line.dropDue = s.main.line.dropDue := rfl

end

section
variable (st : StationNo) (o : Option Inflight)

@[simp] theorem State.setInflight_pending : (s.setInflight st o).pending = s.pending := rfl
@[simp] theorem State.setInflight_vdd : (s.setInflight st o).vdd = s.vdd := rfl
@[simp] theorem State.setInflight_vbk : (s.setInflight st o).vbk = s.vbk := rfl
@[simp] theorem State.setInflight_marker : (s.setInflight st o).marker = s.marker := rfl
@[simp] theorem State.setInflight_freeCount : (s.setInflight st o).freeCount = s.freeCount := rfl
@[simp] theorem State.setInflight_ret : (s.setInflight st o).ret = s.ret := rfl
@[simp] theorem State.setInflight_main_host : (s.setInflight st o).main.host = s.main.host := rfl
@[simp] theorem State.setInflight_main_line : (s.setInflight st o).main.line = s.main.line := rfl
@[simp] theorem State.setInflight_main_slots : (s.setInflight st o).main.slots = s.main.slots := rfl
@[simp] theorem State.setInflight_main_posting : (s.setInflight st o).main.posting = s.main.posting := rfl
@[simp] theorem State.setInflight_main_candidates : (s.setInflight st o).main.candidates = s.main.candidates := rfl
@[simp] theorem State.setInflight_main_returns : (s.setInflight st o).main.returns = s.main.returns := rfl
@[simp] theorem State.setInflight_main_sched_pointer : (s.setInflight st o).main.sched.pointer = s.main.sched.pointer := rfl
@[simp] theorem State.setInflight_main_sched_owed : (s.setInflight st o).main.sched.owed = s.main.sched.owed := rfl

end

/-! ## Reading one place after writing one -/

theorem State.chamber_onChamber (c d : ChamberNo) (f : Chamber → Chamber) :
    (s.onChamber c f).chamber d = if d = c then f (s.chamber c) else s.chamber d := look_put ..

theorem State.session_setSession (c d : ChamberNo) (o : Option Session) :
    (s.setSession c o).session d = if d = c then o else s.session d := look_put ..

theorem State.station_onStation (a b : StationNo) (f : Station → Station) :
    (s.onStation a f).station b = if b = a then f (s.station a) else s.station b := look_put ..

theorem State.slot_setSlot (c d : ChamberNo) (x : CommandSlot) :
    (s.setSlot c x).slot d = if d = c then x else s.slot d := look_put ..

theorem State.entry_setEntry (a b : AddrNo) (o : Option LineEntry) :
    (s.setEntry a o).entry b = if b = a then o else s.entry b := look_put ..

theorem State.candidate_setFlag (c d : ChamberNo) (b : Bool) :
    (s.setFlag c b).candidate d = if d = c then b else s.candidate d := look_put ..

theorem State.mapped_setMapped (st o : StationNo) (sl p : SlotNo) (x : Option ChamberNo) :
    (s.setMapped st sl x).mapped o p = if o = st ∧ p = sl then x else s.mapped o p := by
  simp only [State.mapped, State.setMapped_ret_siteMap, look_put]
  by_cases h : o = st
  · subst h; simp [look_put]
  · simp [h]

end Sys2Proof.Machine
end

