-- ==== Sys2Proof/Laws/Lists.lean ====
section
/-! SUPPORT. What the operations on the estimates and the round list can touch: nothing outside the chamber records, the
round list, the candidate flags, the scheduler and the notice outbox. -/

namespace Sys2Proof.Machine

/-- The state with the chamber records, the round list, the candidate flags, the scheduler and the outbox taken out: what
threshold evaluation and the operations on the list leave alone. -/
def listFree (s : State) : State :=
  { s with
    ret := { s.ret with chambers := Vector.replicate 64 coldChamber, round := [] }
    main := { s.main with host := { s.main.host with outbox := [] }, candidates := Vector.replicate 64 false,
                          sched := Scheduler.start } }

variable (s : State) (c : ChamberNo)

/-! ## Updates -/

@[simp] theorem listFree_post (k : Key) : listFree (post k s) = listFree s := rfl
@[simp] theorem listFree_postWith (k : Key) (n : CardNo) (x : Serial) : listFree (postWith k n x s) = listFree s := rfl
@[simp] theorem listFree_onChamber (f : Chamber → Chamber) : listFree (s.onChamber c f) = listFree s := rfl
@[simp] theorem listFree_onEstimate (f : Estimate → Estimate) : listFree (s.onEstimate c f) = listFree s := rfl
@[simp] theorem listFree_onSched (f : Scheduler → Scheduler) : listFree (s.onSched f) = listFree s := rfl
@[simp] theorem listFree_setRound (l : List Entry) : listFree (s.setRound l) = listFree s := rfl
@[simp] theorem listFree_setFlag (b : Bool) : listFree (s.setFlag c b) = listFree s := rfl
@[simp] theorem listFree_disturb : listFree (disturb c s) = listFree s := rfl
@[simp] theorem listFree_dropOwed : listFree (dropOwed c s) = listFree s := rfl

@[simp] theorem listFree_eachOf {α : Type} (l : List α) (f : α → State → State)
    (h : ∀ x s, listFree (f x s) = listFree s) (s : State) : listFree (eachOf l f s) = listFree s := by
  induction l generalizing s with
  | nil => rfl
  | cons x l ih => exact (ih (f x s)).trans (h x s)

/-! ## Access states and the list -/

@[simp] theorem listFree_setAccess (a : Access) : listFree (setAccess c a s) = listFree s := by
  unfold setAccess; split
  · rfl
  · dsimp only; split <;> split <;> rfl

@[simp] theorem listFree_changeRound (l : List Entry) : listFree (changeRound l s) = listFree s := by
  unfold changeRound; split <;> rfl

@[simp] theorem listFree_rewriteEntry (f : Entry → Entry) : listFree (rewriteEntry c f s) = listFree s := by
  simp [rewriteEntry]

@[simp] theorem listFree_setCandidate (b : Bool) : listFree (setCandidate c b s) = listFree s := by
  unfold setCandidate; split <;> rfl

@[simp] theorem listFree_makeEntry (u : Urgency) (b : Bool) : listFree (makeEntry c u b s) = listFree s := by
  unfold makeEntry; split <;> simp

@[simp] theorem listFree_admitCandidate : listFree (admitCandidate s) = listFree s := by
  unfold admitCandidate; split <;> simp

@[simp] theorem listFree_removeEntry : listFree (removeEntry c s) = listFree s := by
  unfold removeEntry; split <;> simp

@[simp] theorem listFree_promote : listFree (promote c s) = listFree s := by
  unfold promote; repeat' split
  all_goals simp

@[simp] theorem listFree_takeOffer (b : Bool) : listFree (takeOffer c b s) = listFree s := by
  unfold takeOffer; repeat' split
  all_goals simp

@[simp] theorem listFree_entryWaits (b : Bool) : listFree (entryWaits c b s) = listFree s := by
  unfold entryWaits; dsimp only; rw [apply_ite listFree]; simp

@[simp] theorem listFree_entryInVisit (st : StationNo) : listFree (entryInVisit c st s) = listFree s := by
  simp [entryInVisit]

/-! ## Threshold evaluation, deposits, misses, readings, sweeps -/

@[simp] theorem listFree_accessStep (g : ChamberConfig) : listFree (accessStep g c s) = listFree s := by
  unfold accessStep; repeat' split
  all_goals simp

@[simp] theorem listFree_withdrawalStep (g : ChamberConfig) : listFree (withdrawalStep g c s) = listFree s := by
  unfold withdrawalStep; dsimp only; repeat' split
  all_goals simp

@[simp] theorem listFree_offerStep (g : ChamberConfig) : listFree (offerStep g c s) = listFree s := by
  unfold offerStep; split <;> simp

@[simp] theorem listFree_promotionStep : listFree (promotionStep c s) = listFree s := by
  unfold promotionStep; split <;> simp

/-- Threshold evaluation touches nothing but the chamber's record, the list, the candidate flags, the scheduler and the
outbox. -/
@[simp] theorem listFree_evaluate : listFree (evaluate c s) = listFree s := by
  unfold evaluate; split <;> simp

@[simp] theorem listFree_depositStep : listFree (depositStep c s) = listFree s := by
  unfold depositStep; split <;> simp

@[simp] theorem listFree_takeMiss : listFree (takeMiss c s) = listFree s := by
  unfold takeMiss; dsimp only; split <;> simp

@[simp] theorem listFree_takeReading (t q : Nat) (x : Int) : listFree (takeReading c t q x s) = listFree s := by
  unfold takeReading; dsimp only; split
  · rfl
  · split <;> simp

@[simp] theorem listFree_requestSweep : listFree (requestSweep s) = listFree s := by
  unfold requestSweep
  refine listFree_eachOf _ _ (fun x s => ?_) s
  dsimp only; split <;> simp

/-! ## Access states after threshold evaluation -/

theorem access_setAccess (a : Access) (d : ChamberNo) :
    (setAccess c a s).access d = if d = c then a else s.access d := by
  unfold setAccess
  by_cases h : s.access c = a
  · rw [if_pos h]
    by_cases hd : d = c
    · rw [if_pos hd, hd, h]
    · rw [if_neg hd]
  · rw [if_neg h]
    have key : ∀ t : State, t.ret.chambers = (s.onChamber c fun ch => { ch with access := a }).ret.chambers →
        t.access d = if d = c then a else s.access d := by
      intro t ht
      unfold State.access State.chamber
      rw [ht, State.onChamber_ret_chambers, look_put]
      by_cases hd : d = c <;> simp [hd]
    dsimp only
    apply key
    split <;> split <;> rfl

/-- A change of access state leaves every chamber's configuration, estimate and lift mark. -/
theorem chamber_setAccess (a : Access) (d : ChamberNo) :
    (setAccess c a s).chamber d = { s.chamber d with access := if d = c then a else (s.chamber d).access } := by
  unfold setAccess
  by_cases h : s.access c = a
  · rw [if_pos h]
    by_cases hd : d = c
    · subst hd
      have : (s.chamber d).access = a := h
      simp [← this]
    · simp [hd]
  · rw [if_neg h]
    have key : ∀ t : State, t.ret.chambers = (s.onChamber c fun ch => { ch with access := a }).ret.chambers →
        t.chamber d = { s.chamber d with access := if d = c then a else (s.chamber d).access } := by
      intro t ht
      unfold State.chamber
      rw [ht, State.onChamber_ret_chambers, look_put]
      by_cases hd : d = c <;> simp [hd]
    dsimp only
    apply key
    split <;> split <;> rfl

end Sys2Proof.Machine
end

