-- ==== Sys2Proof/Laws/Outer.lean ====
section
/-! SUPPORT. What no handling of an event of the site touches: the waiting commands, the supplies, and the host link but
for the notice outbox. -/

namespace Sys2Proof.Machine

/-- The waiting commands, the supplies and the host link without its outbox. -/
def outer (s : State) : List Instr × Bool × Bool × Bool × HostLink :=
  (s.pending, s.vdd, s.vbk, s.marker, { s.main.host with outbox := [] })

variable (s : State) (c : ChamberNo) (st : StationNo) (a : AddrNo)

theorem outer_of_listFree {s t : State} (h : listFree s = listFree t) : outer s = outer t :=
  congrArg (fun x : State => (x.pending, x.vdd, x.vbk, x.marker, x.main.host)) h

@[simp] theorem outer_ite (p : Prop) [Decidable p] (x y : State) :
    outer (if p then x else y) = if p then outer x else outer y := apply_ite outer p x y

@[simp] theorem outer_eachOf {α : Type} (l : List α) (f : α → State → State)
    (h : ∀ x s, outer (f x s) = outer s) (s : State) : outer (eachOf l f s) = outer s := by
  induction l generalizing s with
  | nil => rfl
  | cons x l ih => exact (ih (f x s)).trans (h x s)

/-! ## Updates -/

@[simp] theorem outer_onRet (f : Retained → Retained) : outer (s.onRet f) = outer s := rfl
@[simp] theorem outer_onLine (f : Line → Line) : outer (s.onLine f) = outer s := rfl
@[simp] theorem outer_onSched (f : Scheduler → Scheduler) : outer (s.onSched f) = outer s := rfl
@[simp] theorem outer_onPower (f : Power → Power) : outer (s.onPower f) = outer s := rfl
@[simp] theorem outer_onCensus (f : Census → Census) : outer (s.onCensus f) = outer s := rfl
@[simp] theorem outer_onChamber (f : Chamber → Chamber) : outer (s.onChamber c f) = outer s := rfl
@[simp] theorem outer_onEstimate (f : Estimate → Estimate) : outer (s.onEstimate c f) = outer s := rfl
@[simp] theorem outer_onStation (f : Station → Station) : outer (s.onStation st f) = outer s := rfl
@[simp] theorem outer_onAccount (b : AccountNo) (f : Account → Account) : outer (s.onAccount b f) = outer s := rfl
@[simp] theorem outer_onClock (f : Clock → Clock) : outer (s.onClock f) = outer s := rfl
@[simp] theorem outer_setSession (o : Option Session) : outer (s.setSession c o) = outer s := rfl
@[simp] theorem outer_setRound (l : List Entry) : outer (s.setRound l) = outer s := rfl
@[simp] theorem outer_setVisits (v : Vector (Option Visit) 4) : outer (s.setVisits v) = outer s := rfl
@[simp] theorem outer_setMapped (sl : SlotNo) (o : Option ChamberNo) : outer (s.setMapped st sl o) = outer s := rfl
@[simp] theorem outer_setSlot (x : CommandSlot) : outer (s.setSlot c x) = outer s := rfl
@[simp] theorem outer_setPosting (l : List ChamberNo) : outer (s.setPosting l) = outer s := rfl
@[simp] theorem outer_setReturn (d : Option Deadline) : outer (s.setReturn c d) = outer s := rfl
@[simp] theorem outer_setFlag (b : Bool) : outer (s.setFlag c b) = outer s := rfl
@[simp] theorem outer_setEntry (o : Option LineEntry) : outer (s.setEntry a o) = outer s := rfl
@[simp] theorem outer_setTurn (t : Option Turn) : outer (s.setTurn t) = outer s := rfl
@[simp] theorem outer_setInflight (o : Option Inflight) : outer (s.setInflight st o) = outer s := rfl
@[simp] theorem outer_pass (n : Nat) : outer (pass n s) = outer s := rfl
@[simp] theorem outer_passTo (d : Deadline) : outer (passTo d s) = outer s := rfl
@[simp] theorem outer_postWith (k : Key) (n : CardNo) (x : Serial) : outer (postWith k n x s) = outer s := rfl
@[simp] theorem outer_post (k : Key) : outer (post k s) = outer s := rfl
@[simp] theorem outer_alarm (t : AlarmType) : outer (alarm t c s) = outer s := rfl
@[simp] theorem outer_postNode (x : Serial) : outer (postNode a x s) = outer s := rfl
@[simp] theorem outer_freeCount (n : Nat) : outer ({ s with freeCount := n }) = outer s := rfl

/-! ## Lists and estimates -/

@[simp] theorem outer_setAccess (x : Access) : outer (setAccess c x s) = outer s := outer_of_listFree (by simp)
@[simp] theorem outer_rewriteEntry (f : Entry → Entry) : outer (rewriteEntry c f s) = outer s := outer_of_listFree (by simp)
@[simp] theorem outer_changeRound (l : List Entry) : outer (changeRound l s) = outer s := outer_of_listFree (by simp)
@[simp] theorem outer_setCandidate (b : Bool) : outer (setCandidate c b s) = outer s := outer_of_listFree (by simp)
@[simp] theorem outer_makeEntry (u : Urgency) (b : Bool) : outer (makeEntry c u b s) = outer s := outer_of_listFree (by simp)
@[simp] theorem outer_removeEntry  : outer (removeEntry c s) = outer s := outer_of_listFree (by simp)
@[simp] theorem outer_promote  : outer (promote c s) = outer s := outer_of_listFree (by simp)
@[simp] theorem outer_entryWaits (b : Bool) : outer (entryWaits c b s) = outer s := outer_of_listFree (by simp)
@[simp] theorem outer_entryInVisit  : outer (entryInVisit c st s) = outer s := outer_of_listFree (by simp)
@[simp] theorem outer_evaluate  : outer (evaluate c s) = outer s := outer_of_listFree (by simp)
@[simp] theorem outer_depositStep  : outer (depositStep c s) = outer s := outer_of_listFree (by simp)
@[simp] theorem outer_takeMiss  : outer (takeMiss c s) = outer s := outer_of_listFree (by simp)
@[simp] theorem outer_takeReading (t q : Nat) (x : Int) : outer (takeReading c t q x s) = outer s := outer_of_listFree (by simp)
@[simp] theorem outer_requestSweep  : outer (requestSweep s) = outer s := outer_of_listFree (by simp)
@[simp] theorem outer_disturb  : outer (disturb c s) = outer s := outer_of_listFree (by simp)
@[simp] theorem outer_dropOwed  : outer (dropOwed c s) = outer s := outer_of_listFree (by simp)

/-! ## Slots, visits, sessions -/

@[simp] theorem outer_abandonTurn (p : TurnKind → Bool) : outer (abandonTurn p s) = outer s := by
  unfold abandonTurn; repeat' split
  all_goals simp
@[simp] theorem outer_dropPending  : outer (dropPending c s) = outer s := by
  unfold dropPending; simp
@[simp] theorem outer_postCommand (x : Command) : outer (postCommand c x s) = outer s := by
  unfold postCommand; repeat' split
  all_goals simp
@[simp] theorem outer_removePending (p : Command → Bool) : outer (removePending p c s) = outer s := by
  unfold removePending; repeat' split
  all_goals simp
@[simp] theorem outer_clearSlot  : outer (clearSlot c s) = outer s := by
  unfold clearSlot; simp
@[simp] theorem outer_setPhaseAt (p : Fin 4) (ph : Phase) : outer (setPhaseAt p c ph s) = outer s := by
  unfold setPhaseAt; split <;> simp
@[simp] theorem outer_setPhase (ph : Phase) : outer (setPhase c ph s) = outer s := by
  unfold setPhase; repeat' split
  all_goals simp
@[simp] theorem outer_closeInvolved (i : Involved) : outer (closeInvolved i s) = outer s := by
  unfold closeInvolved; dsimp only; repeat' split
  all_goals simp
@[simp] theorem outer_closeVisit (p : Fin 4) (o : VisitOutcome) : outer (closeVisit p o s) = outer s := by
  unfold closeVisit; repeat' split
  all_goals simp
@[simp] theorem outer_checkComplete (p : Fin 4) : outer (checkComplete p s) = outer s := by
  unfold checkComplete; repeat' split
  all_goals simp
@[simp] theorem outer_finishPhase (ph : Phase) (f : State → State) (h : ∀ t, outer (f t) = outer t) :
    outer (finishPhase c ph f s) = outer s := by
  unfold finishPhase; split <;> simp [h]
@[simp] theorem outer_visitLeft : outer (visitLeft st s) = outer s := by
  unfold visitLeft; repeat' split
  · rfl
  · rfl
  · rw [outer_closeVisit]
    refine outer_eachOf _ _ (fun x s => ?_) s
    split <;> simp
@[simp] theorem outer_changePower (p : PowerState) (k : PowerCause) : outer (changePower p k s) = outer s := by
  unfold changePower; simp
@[simp] theorem outer_setQuiet  : outer (setQuiet s) = outer s := by
  unfold setQuiet; simp
@[simp] theorem outer_abandonPreparation (k : PowerCause) : outer (abandonPreparation k s) = outer s := by
  unfold abandonPreparation; repeat' split
  all_goals simp
@[simp] theorem outer_involve  : outer (involve st c s) = outer s := by
  unfold involve; dsimp only; repeat' split
  all_goals simp
@[simp] theorem outer_openVisit (p : Fin 4) (n : CardNo) (m : VisitMode) : outer (openVisit p st n m s) = outer s := by
  unfold openVisit; simp
@[simp] theorem outer_takeCrew (n : CardNo) (m : VisitMode) : outer (takeCrew st c n m s) = outer s := by
  unfold takeCrew; repeat' split
  all_goals simp
@[simp] theorem outer_appendRecord (r : JournalRecord) : outer (appendRecord r s) = outer s := by
  unfold appendRecord; dsimp only; repeat' split
  all_goals simp
@[simp] theorem outer_settleAccount (x : Session) (o : Option JournalOutcome) : outer (settleAccount x o s) = outer s := by
  unfold settleAccount; repeat' split
  all_goals simp
@[simp] theorem outer_settleJournal (x : Session) (o : Option JournalOutcome) : outer (settleJournal c x o s) = outer s := by
  unfold settleJournal; repeat' split
  all_goals simp
@[simp] theorem outer_countDeposit (o : Option JournalOutcome) : outer (countDeposit c o s) = outer s := by
  unfold countDeposit; repeat' split
  all_goals simp
@[simp] theorem outer_endDrain  : outer (endDrain c s) = outer s := by
  unfold endDrain; repeat' split
  all_goals simp
@[simp] theorem outer_closeSession (o : Option JournalOutcome) (b : Bool) : outer (closeSession c o b s) = outer s := by
  unfold closeSession; split
  · rfl
  · dsimp only; split <;> split <;> simp

/-! ## Presentations, reports, lifts -/

@[simp] theorem outer_useCard (n : CardNo) : outer (useCard n st s) = outer s := by
  unfold useCard; simp
@[simp] theorem outer_reserve (g : Grant) : outer (reserve g s) = outer s := by
  unfold reserve; repeat' split
  all_goals simp
@[simp] theorem outer_grant (g : ChamberConfig) (n : CardNo) (x : Grant) : outer (grant st c g n x s) = outer s := by
  unfold grant; dsimp only; simp only [outer_abandonPreparation, outer_postCommand, outer_disturb]
  split <;> split <;> simp
@[simp] theorem outer_refuse (n : CardNo) (d : DenyCode) : outer (refuse c n d s) = outer s := by
  unfold refuse; dsimp only; repeat' split
  all_goals simp
@[simp] theorem outer_takeCard (o : Option StationNo) (sl : SlotNo) (n : CardNo) : outer (takeCard o sl n s) = outer s := by
  unfold takeCard; repeat' split
  all_goals simp
@[simp] theorem outer_takeHatch (o : Option StationNo) (sl : SlotNo) (r : Byte) : outer (takeHatch o sl r s) = outer s := by
  unfold takeHatch; repeat' split
  all_goals simp
@[simp] theorem outer_markLift  : outer (markLift c s) = outer s := by
  unfold markLift; simp
@[simp] theorem outer_ensureReturn  : outer (ensureReturn c s) = outer s := by
  unfold ensureReturn; repeat' split
  all_goals simp
@[simp] theorem outer_openByFill  : outer (openByFill c s) = outer s := by
  unfold openByFill; simp
@[simp] theorem outer_returnToService  : outer (returnToService c s) = outer s := by
  unfold returnToService; repeat' split
  all_goals simp
@[simp] theorem outer_emptyChamber  : outer (emptyChamber c s) = outer s := by
  unfold emptyChamber; simp
@[simp] theorem outer_visitEmptied (p : Fin 4) : outer (visitEmptied c p s) = outer s := by
  unfold visitEmptied; split <;> simp
@[simp] theorem outer_emptied  : outer (emptied c s) = outer s := by
  unfold emptied; simp
@[simp] theorem outer_liftLocked  : outer (liftLocked c s) = outer s := by
  unfold liftLocked; simp
@[simp] theorem outer_liftEarly  : outer (liftEarly c s) = outer s := by
  unfold liftEarly; dsimp only; repeat' split
  all_goals simp
@[simp] theorem outer_liftUnscheduled  : outer (liftUnscheduled c s) = outer s := by
  unfold liftUnscheduled; simp
@[simp] theorem outer_liftBlocked  : outer (liftBlocked c s) = outer s := by
  unfold liftBlocked; simp
@[simp] theorem outer_takeOut  : outer (takeOut c s) = outer s := by
  unfold takeOut; repeat' split
  all_goals simp
@[simp] theorem outer_takeIn  : outer (takeIn c s) = outer s := by
  unfold takeIn; repeat' split
  all_goals simp
@[simp] theorem outer_takeLift (o : Option StationNo) (sl : SlotNo) (r : Byte) : outer (takeLift o sl r s) = outer s := by
  unfold takeLift; repeat' split
  all_goals simp
@[simp] theorem outer_lockEnded (b : Bool) : outer (lockEnded c b s) = outer s := by
  unfold lockEnded; repeat' split
  all_goals simp
@[simp] theorem outer_releaseEnded (b : Bool) : outer (releaseEnded c b s) = outer s := by
  unfold releaseEnded; dsimp only; repeat' split
  all_goals simp
@[simp] theorem outer_returnPassed  : outer (returnPassed c s) = outer s := by
  unfold returnPassed; dsimp only; repeat' split
  all_goals simp

/-! ## Measurements, line and census -/

@[simp] theorem outer_issueMeasure (g : ChamberConfig) : outer (issueMeasure c g s) = outer s := by
  unfold issueMeasure; simp
@[simp] theorem outer_endDisturbed  : outer (endDisturbed c s) = outer s := by
  unfold endDisturbed; repeat' split
  all_goals simp
@[simp] theorem outer_measureEnded (b : Bool) : outer (measureEnded st b s) = outer s := by
  unfold measureEnded; dsimp only; repeat' split
  all_goals simp
@[simp] theorem outer_takeEcho (o : Option StationNo) (sl : SlotNo) (t q : Nat) (x : Int) : outer (takeEcho o sl t q x s) = outer s := by
  unfold takeEcho; dsimp only; repeat' split
  all_goals simp
@[simp] theorem outer_measureTimedOut (r : Inflight) : outer (measureTimedOut st r s) = outer s := by
  unfold measureTimedOut; dsimp only; repeat' split
  all_goals simp
@[simp] theorem outer_clearInflight  : outer (clearInflight st s) = outer s := by
  unfold clearInflight; simp
@[simp] theorem outer_moveTimeouts  : outer (moveTimeouts s) = outer s := by
  unfold moveTimeouts; simp
@[simp] theorem outer_moveGuards  : outer (moveGuards s) = outer s := by
  unfold moveGuards; simp
@[simp] theorem outer_startTurn (k : TurnKind) (f : List Byte) : outer (startTurn k f s) = outer s := by
  unfold startTurn; simp
@[simp] theorem outer_withhold  : outer (withhold a s) = outer s := by
  unfold withhold; simp
@[simp] theorem outer_removeAddress  : outer (removeAddress a s) = outer s := by
  unfold removeAddress; simp
@[simp] theorem outer_stationOut  : outer (stationOut st s) = outer s := by
  unfold stationOut; simp
@[simp] theorem outer_loseNode (x : Serial) : outer (loseNode a st x s) = outer s := by
  unfold loseNode; simp
@[simp] theorem outer_releaseNode (x : Serial) : outer (releaseNode a x s) = outer s := by
  unfold releaseNode; simp
@[simp] theorem outer_takeOutEntry  : outer (takeOutEntry a s) = outer s := by
  unfold takeOutEntry; repeat' split
  all_goals simp
@[simp] theorem outer_countMiss (b : Bool) : outer (countMiss a b s) = outer s := by
  unfold countMiss; dsimp only; repeat' split
  all_goals simp
@[simp] theorem outer_freeLine  : outer (freeLine s) = outer s := by
  unfold freeLine; simp
@[simp] theorem outer_enterPreparing (k : PowerCause) : outer (enterPreparing k s) = outer s := by
  unfold enterPreparing; simp
@[simp] theorem outer_wake (k : PowerCause) : outer (wake k s) = outer s := by
  unfold wake; simp
@[simp] theorem outer_requestCensus  : outer (requestCensus s) = outer s := by
  unfold requestCensus; simp
@[simp] theorem outer_endCensus  : outer (endCensus s) = outer s := by
  unfold endCensus; dsimp only; repeat' split
  all_goals simp
@[simp] theorem outer_reconcileChamber (v : Vector SlotReport 4) : outer (reconcileChamber st v c s) = outer s := by
  unfold reconcileChamber; dsimp only; repeat' split
  all_goals simp
@[simp] theorem outer_bringOnline (x : StatusAnswer) : outer (bringOnline a st x s) = outer s := by
  unfold bringOnline; simp
@[simp] theorem outer_nextStep (k : CensusStep) : outer (nextStep k s) = outer s := by
  unfold nextStep; simp
@[simp] theorem outer_statusAnswered (x : StatusAnswer) : outer (statusAnswered a x s) = outer s := by
  unfold statusAnswered; dsimp only; repeat' split
  all_goals simp
@[simp] theorem outer_statusFailed  : outer (statusFailed a s) = outer s := by
  unfold statusFailed; simp
@[simp] theorem outer_bindingAnswered (x : StatusAnswer) : outer (bindingAnswered a st x s) = outer s := by
  unfold bindingAnswered; simp
@[simp] theorem outer_bindingFailed (x : Serial) : outer (bindingFailed a x s) = outer s := by
  unfold bindingFailed; simp
@[simp] theorem outer_assignAnswered (x : Serial) : outer (assignAnswered a x s) = outer s := by
  unfold assignAnswered; simp
@[simp] theorem outer_assignFailed  : outer (assignFailed a s) = outer s := by
  unfold assignFailed; simp
@[simp] theorem outer_takeContend (b : Bool) (x : Serial) : outer (takeContend b x s) = outer s := by
  unfold takeContend; split
  · simp
  · dsimp only; split <;> split <;> simp
@[simp] theorem outer_handOver (o : Option StationNo) (r : AttnRecord) : outer (handOver o r s) = outer s := by
  unfold handOver; dsimp only; repeat' split
  all_goals simp
@[simp] theorem outer_readAnswered (r : Option AttnRecord) : outer (readAnswered a r s) = outer s := by
  unfold readAnswered; repeat' split
  all_goals simp
@[simp] theorem outer_takeQuery (b : Bool) (w : Byte) : outer (takeQuery b w s) = outer s := by
  unfold takeQuery; dsimp only; repeat' split
  all_goals simp

theorem outer_pickFree {α : Type} (l : List α) : outer (pickFree l s).2 = outer s := by
  unfold pickFree; split <;> rfl

/-! ## The arbiter -/

@[simp] theorem outer_startRead (k : AttnClass) : outer (startRead k a s) = outer s := by
  unfold startRead; simp
@[simp] theorem outer_sendPending (sl : SlotNo) (x : Command) : outer (sendPending c a sl x s) = outer s := by
  unfold sendPending; dsimp only; repeat' split
  all_goals simp
@[simp] theorem outer_servePosting (l : List ChamberNo) : outer (servePosting l s) = outer s := by
  induction l generalizing s with
  | nil => rfl
  | cons d l ih => unfold servePosting; split <;> simp [ih]

@[simp] theorem outer_startQuery  : outer (startQuery s) = outer s := by
  unfold startQuery; simp
@[simp] theorem outer_choiceCommand  : outer (choiceCommand s) = outer s := by
  unfold choiceCommand; repeat' split
  all_goals simp
@[simp] theorem outer_choiceQuery  : outer (choiceQuery s) = outer s := by
  unfold choiceQuery; repeat' split
  all_goals simp
@[simp] theorem outer_startBinding  : outer (startBinding a s) = outer s := by
  unfold startBinding; simp
@[simp] theorem outer_startCensus  : outer (startCensus s) = outer s := by
  unfold startCensus; simp
@[simp] theorem outer_startStep  : outer (startStep s) = outer s := by
  unfold startStep; dsimp only; repeat' split
  all_goals simp
@[simp] theorem outer_choiceCensus : outer (choiceCensus s) = outer s := by
  have h := outer_pickFree s s.bindingsPending
  unfold choiceCensus; split
  · rename_i heq; rw [heq] at h; simpa using h
  · rename_i heq; rw [heq] at h
    split <;> simpa using h
@[simp] theorem outer_choiceMeasure  : outer (choiceMeasure s) = outer s := by
  unfold choiceMeasure; repeat' split
  all_goals simp
@[simp] theorem outer_choiceLast  : outer (choiceLast s) = outer s := by
  unfold choiceLast; repeat' split
  all_goals simp
@[simp] theorem outer_orElseTurn (f : State → State) (h : ∀ s, outer (f s) = outer s) :
    outer (orElseTurn f s) = outer s := by
  unfold orElseTurn; split <;> simp [h]

@[simp] theorem outer_choose  : outer (choose s) = outer s := by
  unfold choose; simp
@[simp] theorem outer_arbitrate  : outer (arbitrate s) = outer s := by
  unfold arbitrate; repeat' split
  all_goals simp

end Sys2Proof.Machine
end

