-- ==== Sys2Proof/Laws/PerInstr.lean ====
section
/-! SUPPORT. Laws stated per command: the payload of the request a command carries has the length that the catalogue of
section 10.3 fixes for its KIND. -/

open Sys2Proof Sys2Proof.Machine

/-- The request a command carries, if it carries one, is written in exactly the bytes the catalogue fixes for its KIND
(R173, section 10.3). -/
def Sys2Proof.Laws.PayloadLength.Statement (i : Instr) : Prop :=
  ∀ tag r, i.request = some (tag, r) → requestLength (requestKind r) = some (requestPayload r).length

theorem Sys2Proof.Laws.PayloadLength.mainPowerUp (markerGood : Bool) (cut : Option Nat) :
    Sys2Proof.Laws.PayloadLength.Statement (.mainPowerUp markerGood cut) := by
  intro t r h; cases h

theorem Sys2Proof.Laws.PayloadLength.warmStart (cut : Option Nat) :
    Sys2Proof.Laws.PayloadLength.Statement (.warmStart cut) := by
  intro t r h; cases h

theorem Sys2Proof.Laws.PayloadLength.mainPowerLoss :
    Sys2Proof.Laws.PayloadLength.Statement .mainPowerLoss := by
  intro t r h; cases h

theorem Sys2Proof.Laws.PayloadLength.partClockWrap :
    Sys2Proof.Laws.PayloadLength.Statement .partClockWrap := by
  intro t r h; cases h

theorem Sys2Proof.Laws.PayloadLength.hostFrameReceived (bytes : List Byte) :
    Sys2Proof.Laws.PayloadLength.Statement (.hostFrameReceived bytes) := by
  intro t r h; cases h

theorem Sys2Proof.Laws.PayloadLength.hostInterbyteTimeout :
    Sys2Proof.Laws.PayloadLength.Statement .hostInterbyteTimeout := by
  intro t r h; cases h

theorem Sys2Proof.Laws.PayloadLength.transmitEnd :
    Sys2Proof.Laws.PayloadLength.Statement .transmitEnd := by
  intro t r h; cases h

theorem Sys2Proof.Laws.PayloadLength.siteStatus (tag : Byte) :
    Sys2Proof.Laws.PayloadLength.Statement (.siteStatus tag) := by
  intro t r h; cases h; rfl

theorem Sys2Proof.Laws.PayloadLength.siteSet (tag : Byte) (f : SiteFields) :
    Sys2Proof.Laws.PayloadLength.Statement (.siteSet tag f) := by
  intro t r h; cases h; rfl

theorem Sys2Proof.Laws.PayloadLength.partRestart (tag : Byte) :
    Sys2Proof.Laws.PayloadLength.Statement (.partRestart tag) := by
  intro t r h; cases h; rfl

theorem Sys2Proof.Laws.PayloadLength.cardPut (tag : Byte) (f : CardFields) :
    Sys2Proof.Laws.PayloadLength.Statement (.cardPut tag f) := by
  intro t r h; cases h; rcases f with ⟨_, _, _, _, _ | _⟩ <;> rfl

theorem Sys2Proof.Laws.PayloadLength.cardAmend (tag mask : Byte) (f : CardFields) :
    Sys2Proof.Laws.PayloadLength.Statement (.cardAmend tag mask f) := by
  intro t r h; cases h; rcases f with ⟨_, _, _, _, _ | _⟩ <;> rfl

theorem Sys2Proof.Laws.PayloadLength.cardGet (tag : Byte) (card : CardNo) :
    Sys2Proof.Laws.PayloadLength.Statement (.cardGet tag card) := by
  intro t r h; cases h; rfl

theorem Sys2Proof.Laws.PayloadLength.cardRemove (tag : Byte) (card : CardNo) :
    Sys2Proof.Laws.PayloadLength.Statement (.cardRemove tag card) := by
  intro t r h; cases h; rfl

theorem Sys2Proof.Laws.PayloadLength.cardScan (tag : Byte) (start : BitVec 16) (count : Byte) :
    Sys2Proof.Laws.PayloadLength.Statement (.cardScan tag start count) := by
  intro t r h; cases h; rfl

theorem Sys2Proof.Laws.PayloadLength.accountPut (tag : Byte) (index : BitVec 16) (f : AccountFields) :
    Sys2Proof.Laws.PayloadLength.Statement (.accountPut tag index f) := by
  intro t r h; cases h; rfl

theorem Sys2Proof.Laws.PayloadLength.accountAmend (tag : Byte) (index : BitVec 16) (mask : Byte) (f : AccountFields) :
    Sys2Proof.Laws.PayloadLength.Statement (.accountAmend tag index mask f) := by
  intro t r h; cases h; rfl

theorem Sys2Proof.Laws.PayloadLength.accountGet (tag : Byte) (index : BitVec 16) :
    Sys2Proof.Laws.PayloadLength.Statement (.accountGet tag index) := by
  intro t r h; cases h; rfl

theorem Sys2Proof.Laws.PayloadLength.groupWrite (tag : Byte) (f : GroupFields) :
    Sys2Proof.Laws.PayloadLength.Statement (.groupWrite tag f) := by
  intro t r h; cases h; rfl

theorem Sys2Proof.Laws.PayloadLength.classPut (tag slot : Byte) (f : ClassFields) :
    Sys2Proof.Laws.PayloadLength.Statement (.classPut tag slot f) := by
  intro t r h; cases h; rcases f with ⟨_, _, _, _, _, _ | _, _⟩ <;> rfl

theorem Sys2Proof.Laws.PayloadLength.classGet (tag slot : Byte) :
    Sys2Proof.Laws.PayloadLength.Statement (.classGet tag slot) := by
  intro t r h; cases h; rfl

theorem Sys2Proof.Laws.PayloadLength.chamberSet (tag chamber : Byte) (f : ChamberFields) :
    Sys2Proof.Laws.PayloadLength.Statement (.chamberSet tag chamber f) := by
  intro t r h; cases h; rfl

theorem Sys2Proof.Laws.PayloadLength.chamberGet (tag chamber : Byte) :
    Sys2Proof.Laws.PayloadLength.Statement (.chamberGet tag chamber) := by
  intro t r h; cases h; rfl

theorem Sys2Proof.Laws.PayloadLength.chamberClear (tag chamber : Byte) :
    Sys2Proof.Laws.PayloadLength.Statement (.chamberClear tag chamber) := by
  intro t r h; cases h; rfl

theorem Sys2Proof.Laws.PayloadLength.profilePut (tag profile : Byte) (f : ProfileFields) :
    Sys2Proof.Laws.PayloadLength.Statement (.profilePut tag profile f) := by
  intro t r h; cases h; rfl

theorem Sys2Proof.Laws.PayloadLength.profileGet (tag profile : Byte) :
    Sys2Proof.Laws.PayloadLength.Statement (.profileGet tag profile) := by
  intro t r h; cases h; rfl

theorem Sys2Proof.Laws.PayloadLength.stationBind (tag station : Byte) (serial : Option Serial) :
    Sys2Proof.Laws.PayloadLength.Statement (.stationBind tag station serial) := by
  intro t r h; cases h; rcases serial with _ | _ <;> rfl

theorem Sys2Proof.Laws.PayloadLength.stationGet (tag station : Byte) :
    Sys2Proof.Laws.PayloadLength.Statement (.stationGet tag station) := by
  intro t r h; cases h; rfl

theorem Sys2Proof.Laws.PayloadLength.roundRead (tag start count : Byte) :
    Sys2Proof.Laws.PayloadLength.Statement (.roundRead tag start count) := by
  intro t r h; cases h; rfl

theorem Sys2Proof.Laws.PayloadLength.roundAdd (tag chamber urgency : Byte) :
    Sys2Proof.Laws.PayloadLength.Statement (.roundAdd tag chamber urgency) := by
  intro t r h; cases h; rfl

theorem Sys2Proof.Laws.PayloadLength.roundDrop (tag chamber : Byte) :
    Sys2Proof.Laws.PayloadLength.Statement (.roundDrop tag chamber) := by
  intro t r h; cases h; rfl

theorem Sys2Proof.Laws.PayloadLength.journalRead (tag : Byte) (start : BitVec 16) (count : Byte) :
    Sys2Proof.Laws.PayloadLength.Statement (.journalRead tag start count) := by
  intro t r h; cases h; rfl

theorem Sys2Proof.Laws.PayloadLength.journalRelease (tag : Byte) (count : BitVec 16) (expected : Option Seconds) :
    Sys2Proof.Laws.PayloadLength.Statement (.journalRelease tag count expected) := by
  intro t r h; cases h; rcases expected with _ | _ <;> rfl

theorem Sys2Proof.Laws.PayloadLength.lineCensus (tag : Byte) :
    Sys2Proof.Laws.PayloadLength.Statement (.lineCensus tag) := by
  intro t r h; cases h; rfl

theorem Sys2Proof.Laws.PayloadLength.lineSweep (tag : Byte) :
    Sys2Proof.Laws.PayloadLength.Statement (.lineSweep tag) := by
  intro t r h; cases h; rfl

theorem Sys2Proof.Laws.PayloadLength.lineDormant (tag : Byte) :
    Sys2Proof.Laws.PayloadLength.Statement (.lineDormant tag) := by
  intro t r h; cases h; rfl

theorem Sys2Proof.Laws.PayloadLength.lineWake (tag : Byte) :
    Sys2Proof.Laws.PayloadLength.Statement (.lineWake tag) := by
  intro t r h; cases h; rfl

theorem Sys2Proof.Laws.PayloadLength.lineReset (tag : Byte) :
    Sys2Proof.Laws.PayloadLength.Statement (.lineReset tag) := by
  intro t r h; cases h; rfl

theorem Sys2Proof.Laws.PayloadLength.lineFrameDiscard (bytes : List Byte) :
    Sys2Proof.Laws.PayloadLength.Statement (.lineFrameDiscard bytes) := by
  intro t r h; cases h

theorem Sys2Proof.Laws.PayloadLength.responseWindowExpiry :
    Sys2Proof.Laws.PayloadLength.Statement .responseWindowExpiry := by
  intro t r h; cases h

theorem Sys2Proof.Laws.PayloadLength.unlockEnd (e : TxnEnd) :
    Sys2Proof.Laws.PayloadLength.Statement (.unlockEnd e) := by
  intro t r h; cases h

theorem Sys2Proof.Laws.PayloadLength.denyEnd (e : TxnEnd) :
    Sys2Proof.Laws.PayloadLength.Statement (.denyEnd e) := by
  intro t r h; cases h

theorem Sys2Proof.Laws.PayloadLength.lockEnd (e : TxnEnd) :
    Sys2Proof.Laws.PayloadLength.Statement (.lockEnd e) := by
  intro t r h; cases h

theorem Sys2Proof.Laws.PayloadLength.releaseEnd (e : TxnEnd) :
    Sys2Proof.Laws.PayloadLength.Statement (.releaseEnd e) := by
  intro t r h; cases h

theorem Sys2Proof.Laws.PayloadLength.measureEnd (e : TxnEnd) :
    Sys2Proof.Laws.PayloadLength.Statement (.measureEnd e) := by
  intro t r h; cases h

theorem Sys2Proof.Laws.PayloadLength.attnReadEnd (e : TxnEnd) :
    Sys2Proof.Laws.PayloadLength.Statement (.attnReadEnd e) := by
  intro t r h; cases h

theorem Sys2Proof.Laws.PayloadLength.assignEnd (e : TxnEnd) :
    Sys2Proof.Laws.PayloadLength.Statement (.assignEnd e) := by
  intro t r h; cases h

theorem Sys2Proof.Laws.PayloadLength.statusEnd (e : StatusEnd) :
    Sys2Proof.Laws.PayloadLength.Statement (.statusEnd e) := by
  intro t r h; cases h

theorem Sys2Proof.Laws.PayloadLength.bindingStatusEnd (e : StatusEnd) :
    Sys2Proof.Laws.PayloadLength.Statement (.bindingStatusEnd e) := by
  intro t r h; cases h

theorem Sys2Proof.Laws.PayloadLength.attnQueryWindow (presence : Bool) (word : Byte) :
    Sys2Proof.Laws.PayloadLength.Statement (.attnQueryWindow presence word) := by
  intro t r h; cases h

theorem Sys2Proof.Laws.PayloadLength.contendWindow (presence : Bool) (serial : Serial) :
    Sys2Proof.Laws.PayloadLength.Statement (.contendWindow presence serial) := by
  intro t r h; cases h

theorem Sys2Proof.Laws.PayloadLength.censusOpenSent :
    Sys2Proof.Laws.PayloadLength.Statement .censusOpenSent := by
  intro t r h; cases h

theorem Sys2Proof.Laws.PayloadLength.dormantSent :
    Sys2Proof.Laws.PayloadLength.Statement .dormantSent := by
  intro t r h; cases h

theorem Sys2Proof.Laws.PayloadLength.dropAddressSent :
    Sys2Proof.Laws.PayloadLength.Statement .dropAddressSent := by
  intro t r h; cases h

theorem Sys2Proof.Laws.PayloadLength.guardDeadline (chamber : ChamberNo) :
    Sys2Proof.Laws.PayloadLength.Statement (.guardDeadline chamber) := by
  intro t r h; cases h

theorem Sys2Proof.Laws.PayloadLength.visitDeadline (station : StationNo) :
    Sys2Proof.Laws.PayloadLength.Statement (.visitDeadline station) := by
  intro t r h; cases h

theorem Sys2Proof.Laws.PayloadLength.returnDeadline (chamber : ChamberNo) :
    Sys2Proof.Laws.PayloadLength.Statement (.returnDeadline chamber) := by
  intro t r h; cases h

theorem Sys2Proof.Laws.PayloadLength.measurementTimeout (station : StationNo) :
    Sys2Proof.Laws.PayloadLength.Statement (.measurementTimeout station) := by
  intro t r h; cases h

theorem Sys2Proof.Laws.PayloadLength.censusPeriodDeadline :
    Sys2Proof.Laws.PayloadLength.Statement .censusPeriodDeadline := by
  intro t r h; cases h

theorem Sys2Proof.Laws.PayloadLength.quietDeadline :
    Sys2Proof.Laws.PayloadLength.Statement .quietDeadline := by
  intro t r h; cases h

theorem Sys2Proof.Laws.PayloadLength.dormantDeadline :
    Sys2Proof.Laws.PayloadLength.Statement .dormantDeadline := by
  intro t r h; cases h

theorem Sys2Proof.Laws.PayloadLength.wakePulse (micros : Nat) :
    Sys2Proof.Laws.PayloadLength.Statement (.wakePulse micros) := by
  intro t r h; cases h

theorem Sys2Proof.Laws.PayloadLength.settleEnd :
    Sys2Proof.Laws.PayloadLength.Statement .settleEnd := by
  intro t r h; cases h

theorem Sys2Proof.Laws.PayloadLength.backupSupplyLoss :
    Sys2Proof.Laws.PayloadLength.Statement .backupSupplyLoss := by
  intro t r h; cases h
end

