-- ==== Sys2Proof/Laws/Requests.lean ====
section
/-! SUPPORT. What the owners' actions on requests touch, and how a request that arrives is taken. -/

namespace Sys2Proof.Machine

variable (s : State) (c : ChamberNo) (st : StationNo)

/-! ## The owners' actions leave the queue, the supplies and the host link but for the outbox -/

@[simp] theorem outer_placeConfig (g : ChamberConfig) : outer (placeConfig c g s) = outer s := by
  unfold placeConfig; dsimp only; repeat' split
  all_goals simp

@[simp] theorem outer_settleAccess (g : ChamberConfig) : outer (settleAccess c g s) = outer s := by
  unfold settleAccess; repeat' split
  all_goals simp

@[simp] theorem outer_configure (g : ChamberConfig) : outer (configure c g s) = outer s := by
  unfold configure; simp

@[simp] theorem outer_unconfigure (g : ChamberConfig) : outer (unconfigure c g s) = outer s := by
  unfold unconfigure; simp

@[simp] theorem outer_unbindOnline (a : AddrNo) : outer (unbindOnline st a s) = outer s := by
  unfold unbindOnline; simp

@[simp] theorem outer_dropBindingOf : outer (dropBindingOf st s) = outer s := by
  unfold dropBindingOf; split <;> simp

@[simp] theorem outer_bindAddressed (n : Serial) : outer (bindAddressed st n s) = outer s := by
  unfold bindAddressed; repeat' split
  all_goals simp

@[simp] theorem outer_rebind (n : Option Serial) : outer (rebind st n s) = outer s := by
  unfold rebind; dsimp only; repeat' split
  all_goals simp

@[simp] theorem outer_forceEntry (u : Urgency) : outer (forceEntry c u s) = outer s := by
  unfold forceEntry; dsimp only; repeat' split
  all_goals simp

@[simp] theorem outer_addEntry (u : Urgency) : outer (addEntry c u s) = outer s := by
  unfold addEntry; simp

@[simp] theorem outer_releaseRecords (n : Nat) : outer (releaseRecords n s) = outer s := by
  unfold releaseRecords; dsimp only; repeat' split
  all_goals simp

@[simp] theorem outer_resetTurns : outer (resetTurns s) = outer s := rfl

@[simp] theorem outer_resetChambers : outer (resetChambers s) = outer s := by
  unfold resetChambers; simp

@[simp] theorem outer_resetSessions : outer (resetSessions s) = outer s := by
  unfold resetSessions; simp

@[simp] theorem outer_expireVisits (n : Nat) : outer (expireVisits n s) = outer s := by
  induction n generalizing s with
  | zero => rfl
  | succ n ih =>
    have h := outer_pickFree s ((indexes 4).filter fun p => (look s.ret.visits p).isSome)
    unfold expireVisits; split
    · rename_i heq; rw [heq] at h; simpa [ih] using h
    · rename_i heq; rw [heq] at h; exact h

@[simp] theorem outer_resetTable : outer (resetTable s) = outer s := rfl

@[simp] theorem outer_resetPower : outer (resetPower s) = outer s := by
  unfold resetPower; split <;> simp

@[simp] theorem outer_resetFollow : outer (resetFollow s) = outer s := by
  unfold resetFollow; dsimp only; split <;> simp
@[simp] theorem outer_resetNotices (old : Vector (Option LineEntry) 16) : outer (resetNotices old s) = outer s := by
  unfold resetNotices
  rw [outer_eachOf _ _ (fun a s => by split <;> simp)]
  simp

@[simp] theorem outer_resetLine : outer (resetLine s) = outer s := by
  unfold resetLine; simp

@[simp] theorem outer_quietWritten : outer (quietWritten s) = outer s := by
  unfold quietWritten; repeat' split
  all_goals simp

@[simp] theorem outer_writeSite (f : SiteFields) (x : FractionSet) : outer (writeSite f x s) = outer s := by
  unfold writeSite; dsimp only; repeat' split
  all_goals simp

/-- Whatever a request does, it leaves the waiting commands, the supplies and the host link but for the outbox. -/
@[simp] theorem outer_act (r : Request) : outer (act r s).1 = outer s := by
  cases r <;> simp only [act]
  case siteStatus => rfl
  case siteSet f => unfold takeSiteSet; split <;> simp
  case partRestart => rfl
  case cardPut f => unfold takeCardPut; dsimp only; repeat' split
                    all_goals simp
  case cardAmend m f => unfold takeCardAmend; dsimp only; repeat' split
                        all_goals simp
  case cardGet n => unfold takeCardGet; repeat' split
                    all_goals simp
  case cardRemove n => unfold takeCardRemove; repeat' split
                       all_goals simp
  case cardScan => rfl
  case accountPut i f => unfold takeAccountPut; repeat' split
                         all_goals simp
  case accountAmend i m f => unfold takeAccountAmend; repeat' split
                             all_goals simp
  case accountGet i => unfold takeAccountGet; split <;> simp
  case groupWrite f => unfold takeGroupWrite; dsimp only; split <;> simp
  case classPut i f => unfold takeClassPut; dsimp only; split <;> simp
  case classGet i => unfold takeClassGet; split <;> simp
  case chamberSet b f => unfold takeChamberSet; dsimp only; repeat' split
                         all_goals simp
  case chamberGet b => unfold takeChamberGet; split <;> simp
  case chamberClear b => unfold takeChamberClear; repeat' split
                         all_goals simp
  case profilePut p f => unfold takeProfilePut; repeat' split
                         all_goals simp
  case profileGet p => unfold takeProfileGet; split <;> simp
  case stationBind b n => unfold takeStationBind; repeat' split
                          all_goals simp
  case stationGet b => unfold takeStationGet; split <;> simp
  case roundRead => rfl
  case roundAdd b u => unfold takeRoundAdd; repeat' split
                       all_goals simp
  case roundDrop b => unfold takeRoundDrop; repeat' split
                      all_goals simp
  case journalRead => rfl
  case journalRelease n h => unfold takeJournalRelease; dsimp only; split <;> simp
  case lineCensus => unfold takeLineCensus; dsimp only; repeat' split
                     all_goals simp
  case lineSweep => unfold takeLineSweep; dsimp only; repeat' split
                    all_goals simp
  case lineDormant => unfold takeLineDormant; dsimp only; repeat' split
                      all_goals simp
  case lineWake => unfold takeLineWake; dsimp only; repeat' split
                   all_goals simp
  case lineReset => unfold takeLineReset; simp

end Sys2Proof.Machine
end

