-- ==== Sys2Proof/Laws/Slots.lean ====
section
/-! SUPPORT. What the operations on the notice outbox, on a chamber's line command slot, on the line turn, on the
transmitter and on a session can do, said once for each. -/

namespace Sys2Proof.Machine

variable (s : State) (c : ChamberNo)

/-! ## The outbox (R180) -/

@[simp] theorem refreshKey_key (now : Seconds) (n : CardNo) (x : Serial) (e : OutboxKey) :
    (refreshKey now n x e).key = e.key := by
  unfold refreshKey; split <;> rfl

/-- The keys of the outbox after a posting: an absent key joins at the end, a present one keeps its place. -/
theorem keys_outboxPost (k : Key) (now : Seconds) (n : CardNo) (x : Serial) (l : List OutboxKey) :
    (outboxPost k now n x l).map (·.key) =
      if k ∈ l.map (·.key) then l.map (·.key) else l.map (·.key) ++ [k] := by
  have hk : (l.any fun e => e.key == k) = true ↔ k ∈ l.map (·.key) := by simp
  unfold outboxPost
  by_cases h : k ∈ l.map (·.key)
  · rw [if_pos (hk.2 h), if_pos h, List.map_map]
    refine List.map_congr_left fun e _ => ?_
    simp only [Function.comp]
    split <;> simp
  · rw [if_neg (fun h' => h (hk.1 h')), if_neg h]; simp

/-- A posted key stands in the outbox. -/
theorem mem_postWith (k : Key) (n : CardNo) (x : Serial) : k ∈ (postWith k n x s).main.host.outbox.map (·.key) := by
  show k ∈ (outboxPost k s.now n x s.main.host.outbox).map (·.key)
  rw [keys_outboxPost]; split <;> simp_all

/-- A posting takes no key out of the outbox. -/
theorem mem_postWith_of_mem (k j : Key) (n : CardNo) (x : Serial) (h : j ∈ s.main.host.outbox.map (·.key)) :
    j ∈ (postWith k n x s).main.host.outbox.map (·.key) := by
  show j ∈ (outboxPost k s.now n x s.main.host.outbox).map (·.key)
  rw [keys_outboxPost]; split
  · exact h
  · exact List.mem_append_left _ h

/-! ## Slots and turns (R10 to R12, R135) -/

/-- A slot operation at `c` moves the slot of `c` and the posting order alone. -/
def SlotStep (s t : State) (c : ChamberNo) : Prop :=
  ∃ (x : CommandSlot) (order : List ChamberNo),
    t = { s with main := { s.main with slots := put s.main.slots c x, posting := order } } ∧
      x.sending = (s.slot c).sending

theorem SlotStep.refl : SlotStep s s c := ⟨s.slot c, s.main.posting, by simp [State.slot], rfl⟩

theorem dropPending_step : SlotStep s (dropPending c s) c := ⟨_, _, rfl, rfl⟩

theorem postCommand_step (cmd : Command) : SlotStep s (postCommand c cmd s) c := by
  unfold postCommand
  split
  · exact ⟨_, _, rfl, rfl⟩
  · split
    · exact ⟨_, _, rfl, rfl⟩
    · exact SlotStep.refl s c
    · exact dropPending_step s c

theorem removePending_step (p : Command → Bool) : SlotStep s (removePending p c s) c := by
  unfold removePending
  split
  · split
    · exact dropPending_step s c
    · exact SlotStep.refl s c
  · exact SlotStep.refl s c

/-- A slot operation at one chamber leaves every other chamber's slot. -/
theorem SlotStep.other {s t : State} {c d : ChamberNo} (h : SlotStep s t c) (hd : d ≠ c) : t.slot d = s.slot d := by
  obtain ⟨x, order, rfl, -⟩ := h
  exact look_put_other _ _ _ _ hd

theorem SlotStep.ret {s t : State} {c : ChamberNo} (h : SlotStep s t c) : t.ret = s.ret := by
  obtain ⟨x, order, rfl, -⟩ := h; rfl

/-- Abandoning a turn frees the line or changes nothing. -/
theorem abandonTurn_cases (p : TurnKind → Bool) :
    abandonTurn p s = s ∨ abandonTurn p s = s.setTurn none := by
  unfold abandonTurn
  split
  · split
    · exact .inr rfl
    · exact .inl rfl
  · exact .inl rfl

/-! ## The transmitter (R181) -/

/-- The transmitter moves the busy list, the outbox and its own frame alone, and only where it is free. -/
theorem kickTx_spec :
    ∃ (busy : List (List Byte)) (outbox : List OutboxKey) (tx : Option Sending),
      kickTx s = (s.onHost fun h => { h with busy := busy, outbox := outbox, tx := tx }) ∧
        (s.main.host.tx.isSome = true → kickTx s = s) := by
  refine ⟨(kickTx s).main.host.busy, (kickTx s).main.host.outbox, (kickTx s).main.host.tx, ?_, ?_⟩
  · unfold kickTx
    dsimp only
    split
    · rfl
    · split <;> rfl
  · intro h
    unfold kickTx
    simp [h]

/-! ## Phases (R119) -/

/-- A change of phase at a place of the visit table rewrites that place's record alone, and posts (VISIT, station). -/
theorem setPhaseAt_spec (p : Fin 4) (ph : Phase) {v : Visit} (h : look s.ret.visits p = some v) :
    setPhaseAt p c ph s = post (.visit v.station) (s.setVisits (put s.ret.visits p (some (v.withPhase c ph)))) := by
  unfold setPhaseAt; rw [h]

/-- A change of phase leaves all of the retained domain but the visit table as it is. -/
theorem setPhaseAt_ret (p : Fin 4) (ph : Phase) :
    (setPhaseAt p c ph s).ret = { s.ret with visits := (setPhaseAt p c ph s).ret.visits } := by
  unfold setPhaseAt; split <;> rfl

theorem setPhase_ret (ph : Phase) : (setPhase c ph s).ret = { s.ret with visits := (setPhase c ph s).ret.visits } := by
  unfold setPhase; split
  · rfl
  · exact setPhaseAt_ret ..

/-- The visit that works on a chamber is open, and names the chamber in a phase that is not final. -/
theorem visitOf_works {p : Fin 4} (h : s.visitOf c = some p) :
    ∃ v ph, look s.ret.visits p = some v ∧ v.phaseOf c = some ph ∧ ph.final = false ∧ s.phaseOf c = some ph := by
  have hw := (lowest_eq_some h).1
  cases hv : look s.ret.visits p with
  | none => simp [hv] at hw
  | some v =>
    cases hp : v.phaseOf c with
    | none => simp [hv, Visit.worksOn, hp] at hw
    | some ph =>
      refine ⟨v, ph, rfl, hp, by simpa [hv, Visit.worksOn, hp] using hw, ?_⟩
      simp [State.phaseOf, h, hv, hp]

/-! ## Sessions (R85) -/

/-- The account step and the journal step of a close move accounts, the journal and the outbox alone. -/
theorem settle_sessions (x : Session) (o : Option JournalOutcome) :
    (settleJournal c x o (settleAccount x o s)).ret.sessions = s.ret.sessions := by
  have h1 : (settleAccount x o s).ret.sessions = s.ret.sessions := by
    unfold settleAccount; split <;> rfl
  have h2 : ∀ t : State, (settleJournal c x o t).ret.sessions = t.ret.sessions := by
    intro t; unfold settleJournal; split
    · unfold appendRecord; dsimp only; split <;> rfl
    · split <;> rfl
  rw [h2, h1]

/-- Closing a chamber's session empties its place of the session table and no other. -/
theorem closeSession_sessions (o : Option JournalOutcome) (drain : Bool) :
    (closeSession c o drain s).ret.sessions = put s.ret.sessions c none := by
  have hd : ∀ t : State, (countDeposit c o t).ret.sessions = t.ret.sessions := by
    intro t
    unfold countDeposit
    split
    · have h := congrArg (fun u : State => u.ret.sessions) (listFree_depositStep t c)
      exact h
    · have h := congrArg (fun u : State => u.ret.sessions) (listFree_depositStep t c)
      exact h
    · rfl
  have he : ∀ t : State, (endDrain c t).ret.sessions = t.ret.sessions := by
    intro t
    have hl : (postCommand c .lock t).ret.sessions = t.ret.sessions :=
      congrArg Retained.sessions (postCommand_step t c .lock).ret
    unfold endDrain
    split
    · rw [setPhase_ret]; exact hl
    · rfl
  unfold closeSession
  cases hs : s.session c with
  | none =>
    have : look s.ret.sessions c = none := hs
    dsimp only
    rw [← this, put_look]
  | some x =>
    dsimp only
    have hp : ∀ t : State, (if x.phase = .posted then removePending isUnlock c t else t).ret.sessions = t.ret.sessions := by
      intro t; split
      · exact congrArg Retained.sessions (removePending_step t c isUnlock).ret
      · rfl
    split
    · rw [he, hd, settle_sessions, hp]; rfl
    · rw [hd, settle_sessions, hp]; rfl

end Sys2Proof.Machine
end

