-- ==== Sys2Proof/Tests/Slice0.lean ====
section
/-! SUPPORT. The model's own tests: the well-formedness checks on ill-formed commands, worked values of the manual, and for
every obligation with hypotheses a concrete state and operands that meet them. -/

namespace Sys2Proof.Tests
open Sys2Proof Sys2Proof.Machine

set_option Elab.async false

/-! ## Well-formedness: each check refuses an ill-formed command -/

theorem test_tag_zero_refused : (Instr.cardGet 0 5).wellFormed = false := by decide
theorem test_tag_one_kept : (Instr.cardGet 1 5).wellFormed = true := by decide
theorem test_empty_host_bytes_refused : (Instr.hostFrameReceived []).wellFormed = false := by decide
theorem test_empty_line_bytes_refused : (Instr.lineFrameDiscard []).wellFormed = false := by decide
theorem test_empty_answer_refused : (Instr.lockEnd (.answered [])).wellFormed = false := by decide
theorem test_empty_status_refused : (Instr.statusEnd (.answered [] default)).wellFormed = false := by decide
theorem test_no_pulse_refused : (Instr.wakePulse 0).wellFormed = false := by decide

/-! ## Worked values of the manual -/

/-- R173: the nine bytes of the text "123456789" give 0x29B1. -/
theorem test_crc_reference : crc16 [0x31, 0x32, 0x33, 0x34, 0x35, 0x36, 0x37, 0x38, 0x39] = 0x29B1 := by decide +kernel

/-- Section 8.2: the ASSIGN frame that gives address 6 to the serial 0x001A44C29F31 ends in SUM 0xFD. -/
theorem test_assign_sum :
    lineFrame 0 codeAssign (split48 0x001A44C29F31 ++ [addrByte 5]) =
      [0x00, 0x03, 0x07, 0x00, 0x1A, 0x44, 0xC2, 0x9F, 0x31, 0x06, 0xFD] := by decide +kernel

/-- The step table under R21. -/
theorem test_step_table :
    [(5000, 60), (3000, 80), (8000, 30), (1000, 15), (700, 120)].map (fun p => stepOf p.1 p.2) = [12, 27, 4, 15, 171] := by
  decide

/-- Section 10.3: a CARD GET frame, LENGTH 5, KIND 0x12, the card number most significant byte first. -/
theorem test_card_get_frame :
    (hostFrame 0x12 7 (requestPayload (.cardGet 0x7200000105))).take 9 =
      [0x5A, 0x05, 0x12, 0x07, 0x72, 0x00, 0x00, 0x01, 0x05] := by decide +kernel

/-- R150: a slot byte above 3 is no answer of a read-out. -/
theorem test_slot_four_is_no_answer : readAnswer .hatch [1, 4, 1] = none := by decide

/-! ## A small site: chamber 0 at station 1, slot 0, its node at line address 1 -/

/-- The configuration of section 2.8 but for its place and profile. -/
def aConfig : ChamberConfig :=
  { station := 0, slot := 0, fraction := .residual, profile := 3, capacity := 5000, drum := 60, depth := 2600,
    clearance := 400, usable := 2200, request := 750, full := 950, tdown := 40, minQuality := 6, window := 30,
    interval := 900 }

def aChamber (a : Access) (m : Option LiftMark) (n k : Nat) : Chamber :=
  { config := some aConfig, access := a,
    estimate := { coldEstimate with anchor := n, count := k, step := 12, fill := min 1000 (n + k * 12) },
    liftMark := m, lastAttempt := none, due := false }

def aStation : Station := { serial := some 7, address := some 0, node := .online, missRun := 0, slotCount := 4 }

def anEntry : LineEntry := { serial := 7, station := some 0, missRun := 0, binding := .none }

def site (a : Access) (m : Option LiftMark := none) (n : Nat := 0) (k : Nat := 0) : State :=
  let r := State.reset
  { r with
    ret := { r.ret with
      chambers := put r.ret.chambers 0 (aChamber a m n k)
      siteMap := put r.ret.siteMap 0 (put (look r.ret.siteMap 0) 0 (some 0))
      stations := put r.ret.stations 0 aStation
      profiles := put r.ret.profiles 3 #v[0, 90, 200, 320, 450, 585, 720, 860, 1000] }
    main := { r.main with line := { r.main.line with table := put r.main.line.table 0 (some anEntry) } } }

/-- The state with a line turn in progress. -/
def during (k : TurnKind) (s : State) (again : Bool := false) : State :=
  s.setTurn (some { kind := k, frame := [], repeated := again, windowMs := 40 })

/-- The state with a command of chamber 0 on the line. -/
def sending (cmd : Command) (s : State) : State :=
  during (.command 0 0) (s.setSlot 0 { pending := none, sending := some cmd })

def aSession (p : UnlockPhase) : Session :=
  { card := 5, kind := .resident, account := some 3, charged := true, granted := 0,
    guard := some { start := 0, span := 40 }, phase := p }

def aVisit (p : Phase) : Visit :=
  { station := 0, crew := 9, mode := .all, opened := 0, deadline := some { start := 0, span := 1200 },
    involved := [{ chamber := 0, phase := p }] }

/-- A visit of chamber 0 with that phase and of chamber 1, LOCKED. -/
def twoChambers (p : Phase) : Visit :=
  { aVisit p with involved := [{ chamber := 0, phase := p }, { chamber := 1, phase := .locked }] }

def withVisit (p : Phase) (s : State) : State := s.setVisits (put s.ret.visits 0 (some (aVisit p)))

def withSession (p : UnlockPhase) (s : State) : State := s.setSession 0 (some (aSession p))

def aCard (st : CardState) (scope : Option StationSet) : Card :=
  { number := 5, account := 3, rights := 31, state := st, scope := scope, lastUse := none }

def withCard (k : Card) (s : State) : State := s.onRet fun r => { r with cards := [k] }

def withAccount (st : AccountState) (used : Nat) (s : State) : State :=
  s.onAccount 3 fun a => { a with state := st, allowance := .limited 10, used := used }

def crewTemplate : Template := { enabled := true, value := 9, mask := 0xFFFFFFFFFF, kind := .crew .all }

def withCrew (s : State) : State := s.onRet fun r => { r with templates := put r.templates 7 crewTemplate }

def powered (p : PowerState) (s : State) : State := s.onPower fun w => { w with state := p }

def measuring (d : Bool) (p : InflightPhase) (s : State) : State :=
  s.setInflight 0 (some { chamber := 0, slot := 0, issued := 0, phase := p, disturbed := d })

def anItem (u : Urgency) (e : EntryState) : Entry :=
  { chamber := 0, fraction := .residual, fill := 800, entered := 0, urgency := u, forced := false, state := e, skips := 0 }

def listed (e : Entry) (s : State) : State := s.setRound [e]

/-- The worked reading of section 2.8.1: A = 180, k = 9; 11000 µs, quality 11, 20 degrees give m = 271, ACCEPTED. -/
theorem test_worked_reading :
    let s := takeReading 0 11000 11 20 (site .opened none 180 9)
    let e := (s.chamber 0).estimate
    (e.last.map fun v => (v.distance, v.height, v.measured, v.predicted, v.outcome)) = some (1888, 712, 271, 288, .accepted) ∧
      (e.anchor, e.count, e.fill) = (271, 0, 271) := by decide +kernel

/-- Section 2.8.2: the 40th deposit after that reading brings E to 751, and the chamber is offered and listed. -/
theorem test_worked_offer :
    let s := depositStep 0 (site .opened none 271 39)
    s.fill 0 = 751 ∧ s.ret.round.map (·.chamber) = [0] := by decide +kernel

/-- Section 1.3.1: an UNLOCK replaces a pending DENY under its old time and place. -/
theorem test_unlock_replaces_deny :
    let s := postCommand 0 (.unlock 30) ((postCommand 0 (.deny .fraction) (site .opened)).onClock fun k => { k with part := 9 })
    (s.slot 0).pending = some (.unlock 30, 0) ∧ s.main.posting = [0] := by decide +kernel

/-- R81, R82: card 5 presented at the OPEN chamber opens a session and posts UNLOCK. -/
theorem test_card_is_granted :
    let s := takeCard (some 0) 0 5 (withAccount .opened 0 (withCard (aCard .active none) (site .opened)))
    (s.session 0).map (·.card) = some 5 ∧ (s.slot 0).pending = some (.unlock 30, 0) := by decide +kernel

def census (k : CensusState) (n : CensusStep) (s : State) : State := s.onCensus fun x => { x with state := k, next := n }

/-- R119, R122: chamber 0 stands EMPTIED in the visit at place 0 and drains in the visit at place 1: the end of its session
posts LOCK, and the newer visit's phase becomes LOCKING. -/
theorem test_the_working_visit_has_the_say :
    let v : Vector (Option Visit) 4 := put (put (site .locking).ret.visits 0 (some { aVisit .emptied with station := 5 })) 1
      (some (aVisit .draining))
    let s := endDrain 0 ((site .locking).setVisits v)
    (s.slot 0).pending = some (.lock, 0) ∧ s.phaseOf 0 = some .locking ∧
      (look s.ret.visits 0).bind (·.phaseOf 0) = some .emptied := by decide +kernel

/-- R112, R130: the record leaves its place after the chambers, so an entry made in the close is IN_VISIT. -/
theorem test_entry_made_in_the_close :
    let s := closeVisit 0 .expired (withVisit .locked (site .locked none 800 0))
    s.ret.round.map (·.state) = [.inVisit 0] ∧ look s.ret.visits 0 = none := by decide +kernel

/-- A STATUS answer from an address with a serial, 4 slots and report bytes of 0. -/
def statusFrame (a : AddrNo) (n : Serial) : List Byte := answerFrame a 0x04 (split48 n ++ [4, 0, 0, 0, 0])

/-- Every chamber of the station out of its pit. -/
def allOut : Vector SlotReport 4 := Vector.replicate 4 ⟨.out, .shut⟩

/-- R136, R150: a STATUS answer of LEN 11 brings the station ONLINE and its chamber LIFTED by the report; one whose SUM fails
changes nothing. -/
theorem test_status_frame_is_checked :
    let s := during (.status 0) (site .offline)
    (takeStatusEnd (.answered ((statusFrame 0 7).dropLast ++ [0]) allOut) s).turnKind = some (.status 0) ∧
      (takeStatusEnd (.answered (statusFrame 0 7) allOut) s).access 0 = .lifted := by decide +kernel

/-- R154, R170: a LINE RESET in DORMANT requests no census; the settle end does, with DROP_ADDRESS the first turn. -/
theorem test_reset_in_dormant_leaves_the_census :
    let s := resetLine (powered .dormant (census .idle .contend (site .opened)))
    s.main.line.power.state = .waking ∧ s.main.line.census.state = .idle ∧
      (settleReached s).main.line.census.state = .pending ∧ (settleReached s).turnKind = some .dropAddress := by
  decide +kernel

/-! ## Laws of the small site -/

theorem site_siteMap (a : Access) (m : Option LiftMark) (n k : Nat) : SiteMapLaw (site a m n k) := by
  intro _ st sl c
  show look (look (put State.reset.ret.siteMap 0 (put (look State.reset.ret.siteMap 0) 0 (some 0))) st) sl = some c ↔
    ∃ g, (look (put State.reset.ret.chambers 0 (aChamber a m n k)) c).config = some g ∧ g.station = st ∧ g.slot = sl
  have h0 : ∀ (x : StationNo) (y : SlotNo), look (look State.reset.ret.siteMap x) y = none := by
    intro x y
    show look (look (Vector.replicate 16 (Vector.replicate 4 none)) x) y = none
    simp
  have h1 : ∀ x : ChamberNo, (look State.reset.ret.chambers x).config = none := by
    intro x
    show (look (Vector.replicate 64 coldChamber) x).config = none
    simp [coldChamber]
  rw [look_put, look_put]
  by_cases hc : c = 0
  · subst hc
    rw [if_pos rfl]
    by_cases hst : st = 0
    · subst hst
      rw [if_pos rfl, look_put]
      by_cases hsl : sl = 0
      · subst hsl
        rw [if_pos rfl]
        exact ⟨fun _ => ⟨aConfig, rfl, rfl, rfl⟩, fun _ => rfl⟩
      · rw [if_neg hsl, h0]
        refine ⟨fun h => (nomatch h), fun ⟨g, hg, _, h⟩ => ?_⟩
        cases hg
        exact absurd h.symm hsl
    · rw [if_neg hst, h0]
      refine ⟨fun h => (nomatch h), fun ⟨g, hg, h, _⟩ => ?_⟩
      cases hg
      exact absurd h.symm hst
  · rw [if_neg hc]
    refine ⟨fun h => ?_, fun ⟨g, hg, _⟩ => ?_⟩
    · by_cases hst : st = 0
      · subst hst
        rw [if_pos rfl, look_put] at h
        by_cases hsl : sl = 0
        · rw [if_pos hsl] at h
          exact absurd (Option.some.inj h).symm hc
        · rw [if_neg hsl, h0] at h
          cases h
      · rw [if_neg hst, h0] at h
        cases h
    · rw [h1] at hg
      cases hg

theorem site_access : AccessLaw (site .opened) := fun _ => by decide +kernel

theorem site_visits (a : Access) (m : Option LiftMark) (n k : Nat) : VisitLaw (site a m n k) := by
  intro _ p q v w hv
  have : look (Vector.replicate 4 none) p = some v := hv
  simp at this

/-- The one open visit, with the chamber's entry in it: what the line's events find (R132). -/
def visited (ph : Phase) (skips : Nat) : State :=
  listed { anItem .normal (.inVisit 0) with skips := skips } (withVisit ph (withSession .answered (site .locking)))

theorem visited_visits (ph : Phase) (k : Nat) : VisitLaw (visited ph k) := by
  have h (p : Fin 4) (v : Visit)
      (e : look (put (Vector.replicate 4 (none : Option Visit)) 0 (some (aVisit ph))) p = some v) : p = 0 := by
    by_cases hp : p = 0
    · exact hp
    · rw [look_put_other _ _ _ _ hp, look_replicate] at e; cases e
  exact fun _ p q v w hv hw _ => (h p v hv).trans (h q w hw).symm

theorem visited_round (ph : Phase) (k : Nat) : RoundLaw (visited ph k) := fun _ =>
  ⟨by simp [visited, listed, State.setRound, State.onRet], by simp [visited, listed, State.setRound, State.onRet],
    by simp [visited, listed, State.setRound, State.onRet], fun e _ => by
      show look (Vector.replicate 64 false) e.chamber = false
      simp⟩

/-- The clauses of O22, O28 and O33 on a visit that the line ends (R132). -/
theorem witness_VisitEndsByTheLine :
    ∀ ph ∈ [Phase.draining, .locking, .locked, .lifted], ∀ k ∈ [0, 2, 15],
      let s := visited ph k
      let e : Entry := { anItem .normal (.inVisit 0) with skips := k }
      (Ready s ∧ AccessLaw s ∧ VisitLaw s ∧ RoundLaw s) ∧ s.visitAt 0 = some 0 ∧ look s.ret.visits 0 = some (aVisit ph) ∧
        ph.final = false ∧ ((aVisit ph).involved.map (·.chamber)).Nodup ∧ s.roundEntry 0 = some e ∧ e.state ≠ .waiting ∧
        ((s.station 0).node = .online ∧ (s.station 0).address = some 0) ∧ (s.session 0).isSome = true := by
  intro ph hp k hk
  have ha : AccessLaw (visited ph k) := fun _ => by
    show ∀ c, ((site .locking).chamber c).config = none ↔ (site .locking).access c = .unconfigured
    decide +kernel
  refine ⟨⟨⟨rfl, rfl, rfl, rfl⟩, ha, visited_visits ph k, visited_round ph k⟩, ?_⟩
  simp only [List.mem_cons, List.not_mem_nil, or_false] at hp hk
  rcases hp with rfl | rfl | rfl | rfl <;> rcases hk with rfl | rfl | rfl <;> decide +kernel

theorem site_round : RoundLaw (site .opened) := fun _ => by
  refine ⟨by decide +kernel, by decide +kernel, by decide +kernel, fun e he => ?_⟩
  exact absurd he (List.not_mem_nil)

theorem site_held : HeldLaw (site .opened) := fun _ a => by
  show (look (Vector.replicate 2048 coldAccount) a).held = _
  simp only [look_replicate]
  have : chargedTo a (site .opened) = 0 := by
    have hl : (site .opened).ret.sessions.toArray.toList = List.replicate 64 none := by decide +kernel
    unfold chargedTo countWhere
    rw [hl]
    simp
  rw [this]; rfl

theorem site_stations : StationLaw (site .opened) := by
  have h : ∀ st : StationNo, (site .opened).station st = if st = 0 then aStation else coldStation := by decide +kernel
  intro _ st
  refine ⟨?_, ?_, fun o n h1 h2 => ?_⟩
  · rw [h]; split <;> decide
  · rw [h]; split <;> decide
  · rw [h] at h1 h2
    by_cases hs : st = 0 <;> by_cases ho : o = 0
    · rw [hs, ho]
    · rw [if_neg ho] at h2; cases h2
    · rw [if_neg hs] at h1; cases h1
    · rw [if_neg hs] at h1; cases h1

theorem site_table : LineTableLaw (site .opened) := by
  have h : ∀ a : AddrNo, (site .opened).entry a = if a = 0 then some anEntry else none := by decide +kernel
  have he : ∀ (a : AddrNo) (e : LineEntry), (site .opened).entry a = some e → a = 0 ∧ e = anEntry := by
    intro a e hh
    rw [h] at hh
    by_cases ha : a = 0
    · rw [if_pos ha] at hh; exact ⟨ha, (Option.some.inj hh).symm⟩
    · rw [if_neg ha] at hh; cases hh
  have hs : ∀ st : StationNo, ((site .opened).station st).address = if st = 0 then some 0 else none := by decide +kernel
  have hk : (site .opened).turnKind = none := by decide +kernel
  have hr : (site .opened).main.line.census.state ≠ .running := by decide +kernel
  intro _
  refine ⟨?_, ?_, ?_, ?_, ?_, ?_, ?_, ?_⟩
  · intro a e hh
    obtain ⟨rfl, rfl⟩ := he a e hh
    exact ⟨fun st hst => by cases hst; decide +kernel, fun hb => rfl⟩
  · intro st a
    rw [hs]
    constructor
    · intro hh
      by_cases hst : st = 0
      · rw [if_pos hst] at hh; cases hh
        exact ⟨anEntry, by rw [h]; rfl, by rw [hst]; rfl, rfl⟩
      · rw [if_neg hst] at hh; cases hh
    · rintro ⟨e, hh, h1, -⟩
      obtain ⟨rfl, rfl⟩ := he a e hh
      cases h1; rfl
  · intro a b e f h1 h2 _
    rw [(he a e h1).1, (he b f h2).1]
  · intro a hh; rw [hk] at hh; cases hh
  · intro a hh; rw [hk] at hh; cases hh
  · intro a e hh; rw [hk] at hh; cases hh
  · intro hh; exact absurd hh hr
  · intro hh; exact absurd hh hr

/-! ## Witnesses of the hypotheses, obligation by obligation -/

def dark : State := { site .opened with vdd := false }
def lost : State := { dark with vbk := false, marker := false }

/-- R188: after a cold start that main power's failure has cut short, the marker is lost and VBK keeps the clock. -/
theorem test_clock_runs_on_backup_without_marker :
    ({ dark with marker := false } : State).clockRuns = true ∧ lost.clockRuns = false := by decide +kernel

theorem site_ready (a : Access) (m : Option LiftMark) (n k : Nat) : Ready (site a m n k) := ⟨rfl, rfl, rfl, rfl⟩

def onHost (f : HostLink → HostLink) : State := (site .opened).onHost f

def queueOf (n : Nat) : List Queued := List.replicate n { tag := 1, req := .siteStatus }

theorem witness_StepRunsTheQueue :
    (State.reset.pending = [] ∧ State.reset.vdd = true) ∧ (dark.pending = [] ∧ dark.vdd = false ∧ dark.vbk = true) ∧
      (lost.pending = [] ∧ lost.vdd = false ∧ lost.vbk = false) := by decide +kernel

theorem witness_CommandsAnswerAndKeepTheSupplies :
    supplyCommand .settleEnd = false ∧ dark.vdd = false ∧ Instr.settleEnd ≠ .partClockWrap := by decide +kernel

theorem witness_RequestFrameActsAsItsRequest :
    (Instr.siteStatus 255).request = some (255, .siteStatus) ∧ (Instr.siteStatus 255).wellFormed = true ∧
      (site .opened).vdd = true ∧ (site .opened).main.host.rx = .hunting := by decide +kernel

theorem witness_LineFrameRoundTrip :
    let p : List Byte := List.replicate 32 0
    let body : List Byte := 1 :: 2 :: BitVec.ofNat 8 p.length :: p
    p.length ≤ 32 ∧ (7 : Byte) ≠ 0xFF - onesSum body ∧ ¬ (onesSum body = 0xFF ∧ (7 : Byte) = 0) ∧
      32 < (List.replicate 33 (0 : Byte)).length ∧ (List.replicate 255 (0 : Byte)).length < 256 := by decide +kernel

theorem witness_RejectedHostFrames :
    (site .opened).vdd = true ∧ (site .opened).main.host.rx = .hunting ∧ (0x5B : Byte) ≠ 0x5A ∧ 248 < (249 : Byte).toNat ∧
      (List.replicate 248 (0 : Byte)).length ≤ 248 ∧ join16 0 0 ≠ crc16 [0, 1, 1] ∧ requestLength 0xEE = none ∧
      requestLength 0x12 = some 5 ∧ ([] : List Byte).length ≠ 5 ∧ (1 : Byte) ≠ 0 := by decide +kernel

theorem witness_RequestIsTakenOrWaitsOrIsBusy :
    (Instr.siteStatus 1).request = some (1, .siteStatus) ∧ (1 : Byte) ≠ 0 ∧ Ready (site .opened) ∧
      (let s := onHost fun h => { h with queue := queueOf 3 }
       s.vdd = true ∧ s.main.host.queue ≠ [] ∧ s.main.host.queue.length < 4) ∧
      (let s := onHost fun h => { h with queue := queueOf 4, busy := [[], [], []] }
       4 ≤ s.main.host.queue.length ∧ s.main.host.busy.length < 4) ∧
      (let s := onHost fun h => { h with queue := queueOf 4, busy := [[], [], [], []] }
       4 ≤ s.main.host.queue.length ∧ 4 ≤ s.main.host.busy.length) :=
  ⟨rfl, by decide, site_ready _ _ _ _, by decide +kernel, by decide +kernel, by decide +kernel⟩

theorem witness_TransmitEndServesInOrder :
    (let s := onHost fun h => { h with tx := some (.busy [1]), reply := some [2] }
     s.vdd = true ∧ s.main.host.tx = some (.busy [1]) ∧ s.main.host.restartDue = false ∧ s.main.host.reply = some [2]) ∧
    (let s := onHost fun h => { h with tx := some (.notice [1]), busy := [[3]] }
     s.main.host.tx = some (.notice [1]) ∧ s.main.host.reply = none ∧ s.main.host.busy = [3] :: []) ∧
    (let s := onHost fun h => { h with tx := some (.notice [1]) }
     s.main.host.reply = none ∧ s.main.host.busy = [] ∧ s.main.host.outbox = lineKey :: []) ∧
    (let s := onHost fun h => { h with tx := some (.notice [1]), outbox := [] }
     s.main.host.reply = none ∧ s.main.host.busy = [] ∧ s.main.host.outbox = []) ∧
    (let s := onHost fun h => { h with tx := some (.reply [1]), queue := [{ tag := 1, req := .partRestart }] }
     s.main.host.tx = some (.reply [1]) ∧ s.main.host.queue = { tag := 1, req := .partRestart } :: []) ∧
    (let s := onHost fun h => { h with tx := some (.reply [1]), queue := queueOf 2 }
     s.main.host.tx = some (.reply [1]) ∧ Request.siteStatus ≠ .partRestart ∧ s.main.host.restartDue = false ∧
       s.main.host.queue = { tag := 1, req := .siteStatus } :: [{ tag := 1, req := .siteStatus }]) ∧
    (∀ n ∈ [0, 3, 4], ∀ m ∈ [3, 4],
      let s := onHost fun h => { h with tx := some (.busy [1]), restartDue := true, queue := queueOf n, busy := List.replicate m [2] }
      s.vdd = true ∧ s.main.host.restartDue = true ∧ s.main.host.queue.length = n ∧ s.main.host.busy.length = m ∧
        s.main.host.tx = some (.busy [1]) ∧ (Instr.siteStatus 1).request = some (1, .siteStatus)) ∧
    (onHost fun h => { h with restartDue := true, tx := none }).main.host.tx = none := by decide +kernel

theorem witness_SuppliesColdStartAndCutStarts :
    (dark.vdd = false ∧ lost.marker = false ∧ (site .opened).vdd = true) ∧
      (let s := (site .opened).onClock fun k => { k with part := 0xFFFFFFFF }
       s.vdd = true ∧ s.now = 0xFFFFFFFF) ∧
      1 < coldStages.length ∧ dark.marker = true ∧ 0 < (warmStages .warmPower).length := by decide +kernel

theorem witness_WarmStartCarriesTheSiteOn :
    (dark.vdd = false ∧ dark.marker = true) ∧
      (let s := onHost fun h => { h with restartDue := true }
       s.vdd = true ∧ s.main.host.restartDue = true) ∧
      (dark.chamber 0).config.isSome = true := by decide +kernel

def fields : CardFields := { card := 6, account := 2047, rights := 31, state := 2, scope := some 1 }

theorem witness_CardPutWritesOneCard :
    Ready (site .opened) ∧ ({ fields with card := 0 } : CardFields).card = 0 ∧ 2048 ≤ (2048 : BitVec 16).toNat ∧
      ¬ (fields.card = 0 ∨ 2048 ≤ fields.account.toNat ∨ 32 ≤ fields.rights.toNat ∨ 3 ≤ fields.state.toNat) ∧
      (site .opened).ret.cards.length < 8192 ∧
      (let s := (site .opened).onRet fun r => { r with cards := List.replicate 8192 (aCard .active none) }
       Ready s ∧ s.findCard 6 = none ∧ 8192 ≤ s.ret.cards.length) := by
  refine ⟨site_ready _ _ _ _, rfl, by decide, by decide, by decide +kernel, ⟨rfl, rfl, rfl, rfl⟩, ?_, ?_⟩
  · show (List.replicate 8192 (aCard .active none)).find? _ = none
    rw [List.find?_replicate]; rfl
  · exact Nat.le_of_eq (List.length_replicate ..).symm

theorem witness_CardAmendWritesMaskedFields :
    Ready (withCard (aCard .active none) (site .opened)) ∧
      ((0xFF : Byte).getLsbD 1 = true ∧ 32 ≤ ({ fields with rights := 32 } : CardFields).rights.toNat) ∧
      ¬ (fields.card = 0 ∨ ((0xFF : Byte).getLsbD 0 = true ∧ 2048 ≤ fields.account.toNat) ∨
        ((0xFF : Byte).getLsbD 1 = true ∧ 32 ≤ fields.rights.toNat) ∨
        ((0xFF : Byte).getLsbD 2 = true ∧ 3 ≤ fields.state.toNat)) ∧
      (site .opened).findCard 6 = none ∧
      (withCard (aCard .active none) (site .opened)).findCard 5 = some (aCard .active none) :=
  ⟨⟨rfl, rfl, rfl, rfl⟩, by decide, by decide, by decide +kernel, by decide +kernel⟩

theorem witness_CardRemoveGetScan :
    Ready (site .opened) ∧ (site .opened).findCard 5 = none ∧
      (∀ i, (look (site .opened).ret.templates i).matches 5 = false) ∧
      ((withCrew (site .opened)).findCard 9 = none ∧
        (look (withCrew (site .opened)).ret.templates 7).matches 9 = true ∧
        ∀ j : Fin 8, j < 7 → (look (withCrew (site .opened)).ret.templates j).matches 9 = false) ∧
      (withCard (aCard .lost none) (site .opened)).findCard 5 = some (aCard .lost none) :=
  ⟨site_ready _ _ _ _, by decide +kernel, by decide +kernel, by decide +kernel, by decide +kernel⟩

theorem witness_AccountWritesKeepHeld :
    Ready (site .opened) ∧ 2048 ≤ (2048 : BitVec 16).toNat ∧ 3 ≤ (3 : Byte).toNat ∧ (2 : Byte).toNat < 3 ∧
      (2047 : AccountNo).val = (2047 : BitVec 16).toNat ∧ ((0xFE : Byte).getLsbD 0 = true → (9 : Byte).toNat < 3) :=
  ⟨site_ready _ _ _ _, by decide, by decide, by decide, by decide, by decide⟩

theorem witness_AccountGetReadsTheRecord :
    Ready (site .opened) ∧ 2048 ≤ (2048 : BitVec 16).toNat ∧ (2047 : AccountNo).val = (2047 : BitVec 16).toNat :=
  ⟨site_ready _ _ _ _, by decide, by decide⟩

theorem witness_GroupWriteWritesMatchingAccounts :
    Ready (site .opened) ∧ ((1 : Byte).getLsbD 0 = true ∧ 3 ≤ (3 : Byte).toNat) ∧
      ((1 : Byte).getLsbD 0 = true → (2 : Byte).toNat < 3) ∧ ((0 : Byte).getLsbD 0 = true → (9 : Byte).toNat < 3) :=
  ⟨site_ready _ _ _ _, by decide, by decide, by decide⟩

theorem witness_ClassPutAndGet :
    Ready (site .opened) ∧ 8 ≤ (8 : Byte).toNat ∧ 2 ≤ (2 : Byte).toNat ∧ (7 : Fin 8).val = (7 : Byte).toNat ∧
      (let f : ClassFields :=
        { enabled := true, value := 9, mask := 15, kind := 0, rights := 31, account := some 2047, mode := 9 }
       f.kind.toNat < 2 ∧ ¬ (f.kind.toNat = 0 ∧ (32 ≤ f.rights.toNat ∨ ∃ a, f.account = some a ∧ 2048 ≤ a.toNat)) ∧
         ¬ (f.kind.toNat = 1 ∧ 2 ≤ f.mode.toNat)) ∧
      (let f : ClassFields :=
        { enabled := true, value := 9, mask := 15, kind := 1, rights := 99, account := none, mode := 1 }
       f.kind.toNat < 2 ∧ ¬ (f.kind.toNat = 0 ∧ (32 ≤ f.rights.toNat ∨ ∃ a, f.account = some a ∧ 2048 ≤ a.toNat)) ∧
         ¬ (f.kind.toNat = 1 ∧ 2 ≤ f.mode.toNat)) := by
  refine ⟨site_ready _ _ _ _, by decide, by decide, by decide, ⟨by decide, ?_, by decide⟩, ⟨by decide, ?_, by decide⟩⟩
  · rintro ⟨_, h | ⟨a, ha, h⟩⟩
    · exact absurd h (by decide)
    · cases ha; exact absurd h (by decide)
  · rintro ⟨h, _⟩; exact absurd h (by decide)

def setting : ChamberFields :=
  { station := 1, slot := 0, fraction := 4, profile := 7, capacity := 500, drum := 120, depth := 800, clearance := 600,
    request := 950, full := 0, tdown := 301, minQuality := 15, window := 9, interval := 3600 }

theorem witness_ChamberSetConfigures :
    Ready (site .opened) ∧ SiteMapLaw (site .opened) ∧ 64 ≤ (64 : Byte).toNat ∧ (0 : ChamberNo).val = (0 : Byte).toNat ∧
      ¬ (64 ≤ (0 : Byte).toNat ∨ setting.station.toNat = 0 ∨ 16 < setting.station.toNat ∨ 4 ≤ setting.slot.toNat ∨
        5 ≤ setting.fraction.toNat ∨ 8 ≤ setting.profile.toNat ∨
        ∃ (st : StationNo) (sl : SlotNo) (o : ChamberNo), st.val + 1 = setting.station.toNat ∧
          sl.val = setting.slot.toNat ∧ (site .opened).mapped st sl = some o ∧ o.val ≠ (0 : Byte).toNat) ∧
      (Ready (site .locking) ∧ SiteMapLaw (site .locking) ∧ (site .locking).access 0 = .locking) ∧
      ¬ (((site .opened).session 0).isSome = true ∨ (site .opened).access 0 = .locking ∨
        (site .opened).access 0 = .locked ∨ (site .opened).access 0 = .lifted) ∧
      (let s := measuring false .sending (listed (anItem .normal .waiting) (site .opened))
       Ready s ∧ SiteMapLaw s ∧ RoundLaw s ∧ s.roundEntry 0 = some (anItem .normal .waiting) ∧ s.candidate 0 = false ∧
         look s.main.sched.inflight 0 =
           some { chamber := 0, slot := 0, issued := 0, phase := .sending, disturbed := false }) := by
  refine ⟨site_ready _ _ _ _, site_siteMap _ _ _ _, by decide, by decide, ?_,
    ⟨site_ready _ _ _ _, site_siteMap _ _ _ _, by decide +kernel⟩, by decide +kernel,
    ⟨⟨rfl, rfl, rfl, rfl⟩, site_siteMap .opened none 0 0,
      fun _ => ⟨by decide +kernel, by decide +kernel, by decide +kernel, by decide +kernel⟩, by decide +kernel,
      by decide +kernel, by decide +kernel⟩⟩
  have hm : (site .opened).mapped 0 0 = some 0 := by decide +kernel
  rintro (h | h | h | h | h | h | ⟨st, sl, o, h1, h2, h3, h4⟩)
  · exact absurd h (by decide)
  · exact absurd h (by decide)
  · exact absurd h (by decide)
  · exact absurd h (by decide)
  · exact absurd h (by decide)
  · exact absurd h (by decide)
  · have hst : st = 0 := Fin.ext (Nat.succ.inj h1)
    have hsl : sl = 0 := Fin.ext h2
    rw [hst, hsl, hm] at h3
    exact h4 (by rw [← Option.some.inj h3]; rfl)

theorem witness_ChamberClearUnconfigures :
    Ready (site .opened) ∧ AccessLaw (site .opened) ∧ 64 ≤ (64 : Byte).toNat ∧ (63 : ChamberNo).val = (63 : Byte).toNat ∧
      ((site .opened).chamber 63).config = none ∧ ((site .opened).chamber 0).config = some aConfig ∧
      ¬ (((site .opened).session 0).isSome = true ∨ (site .opened).access 0 = .locking ∨
        (site .opened).access 0 = .locked ∨ (site .opened).access 0 = .lifted) ∧
      (let s := withSession .posted (site .opened)
       Ready s ∧ AccessLaw s ∧ (s.session 0).isSome = true) :=
  ⟨site_ready _ _ _ _, site_access, by decide, by decide, by decide +kernel, by decide +kernel, by decide +kernel,
    ⟨rfl, rfl, rfl, rfl⟩, fun _ => site_access (.inl rfl), by decide +kernel⟩

theorem witness_ReadsAndProfiles :
    Ready (site .opened) ∧ 64 ≤ (64 : Byte).toNat ∧ (63 : ChamberNo).val = (63 : Byte).toNat ∧ 8 ≤ (8 : Byte).toNat ∧
      (7 : Fin 8).val = (7 : Byte).toNat ∧ 16 < (17 : Byte).toNat ∧ (15 : StationNo).val + 1 = (16 : Byte).toNat ∧
      (7 : Fin 8) ≠ 0 ∧
      (let f : ProfileFields :=
        { p0 := 0, p1 := 90, p2 := 200, p3 := 320, p4 := 450, p5 := 585, p6 := 720, p7 := 860, p8 := 1000 }
       f.p0.toNat = 0 ∧ f.p0.toNat ≤ f.p1.toNat ∧ f.p1.toNat ≤ f.p2.toNat ∧ f.p2.toNat ≤ f.p3.toNat ∧
         f.p3.toNat ≤ f.p4.toNat ∧ f.p4.toNat ≤ f.p5.toNat ∧ f.p5.toNat ≤ f.p6.toNat ∧ f.p6.toNat ≤ f.p7.toNat ∧
         f.p7.toNat ≤ f.p8.toNat ∧ f.p8.toNat = 1000) :=
  ⟨site_ready _ _ _ _, by decide, by decide, by decide, by decide, by decide, by decide, by decide, by decide⟩

/-- An unbound node with serial 8 at line address 16. -/
def withNode (s : State) : State := s.setEntry 15 (some { serial := 8, station := none, missRun := 2, binding := .none })

theorem withNode_visits : VisitLaw (withNode (site .opened)) := site_visits .opened none 0 0

theorem witness_StationBindReplacesTheSerial :
    (let s := withNode (site .opened)
     Ready s ∧ VisitLaw s ∧ 16 < (17 : Byte).toNat ∧ (0 : StationNo).val + 1 = (1 : Byte).toNat ∧
       ((some (0 : Serial)) = some 0) ∧ (s.station 0).serial = some 7 ∧
       ¬ (some (7 : Serial) = some 0 ∨ (some (7 : Serial) ≠ none ∧ ∃ o, o ≠ 0 ∧ (s.station o).serial = some 7)) ∧
       ¬ (some (8 : Serial) = some 0 ∨ (some (8 : Serial) ≠ none ∧ ∃ o, o ≠ 0 ∧ (s.station o).serial = some 8)) ∧
       (s.station 0).serial ≠ some 8 ∧ ((s.station 0).node = .online ∧ (s.station 0).address = some 0) ∧
       s.addressOf 8 = some 15 ∧ s.entry 15 = some { serial := 8, station := none, missRun := 2, binding := .none } ∧
       ¬ (s.censusRunning = true ∧ s.main.line.census.next = .status ∧ s.main.line.census.given = 15)) ∧
    (State.reset.station 3).serial ≠ some 8 ∧ (State.reset.station 3).node ≠ .online :=
  ⟨⟨⟨rfl, rfl, rfl, rfl⟩, withNode_visits, by decide, by decide, rfl, by decide +kernel, by decide +kernel,
    by decide +kernel, by decide +kernel, by decide +kernel, by decide +kernel, by decide +kernel, by decide +kernel⟩,
    by decide +kernel, by decide +kernel⟩

/-- A full list of the chambers 1..32, with chamber 0 a candidate. -/
def fullList : State :=
  ((site .opened none 800 0).setFlag 0 true).setRound
    ((List.range 32).map fun i => { anItem .normal .waiting with chamber := Fin.ofNat 64 (i + 1) })

theorem witness_RoundAddAndDrop :
    (let s := listed (anItem .urgent .waiting) (site .opened)
     Ready s ∧ RoundLaw s ∧ (s.chamber 0).config = some aConfig ∧ (1 : Byte).toNat < 2 ∧
       s.roundEntry 0 = some (anItem .urgent .waiting) ∧ (∀ o, s.candidate o = false)) ∧
    (let s := listed (anItem .normal (.inVisit 0)) (site .opened)
     Ready s ∧ RoundLaw s ∧ s.roundEntry 0 = some (anItem .normal (.inVisit 0)) ∧ EntryState.inVisit 0 ≠ .waiting) ∧
    (Ready (site .opened) ∧ RoundLaw (site .opened) ∧ (site .opened).roundEntry 0 = none ∧
      (site .opened).ret.round.length < 32 ∧ 64 ≤ (64 : Byte).toNat ∧ 2 ≤ (2 : Byte).toNat ∧
      ((site .opened).chamber 63).config = none) ∧
    (Ready fullList ∧ RoundLaw fullList ∧ fullList.roundEntry 0 = none ∧ 32 ≤ fullList.ret.round.length ∧
      fullList.roundEntry 32 = some { anItem .normal .waiting with chamber := 32 } ∧ fullList.candidate 0 = true ∧
      (fullList.chamber 0).config = some aConfig ∧
      ∀ o, fullList.candidate o = true →
        fullList.fill o ≤ fullList.fill 0 ∧ (fullList.fill o = fullList.fill 0 → 0 ≤ o)) := by
  refine ⟨⟨⟨rfl, rfl, rfl, rfl⟩, fun _ => ⟨by decide +kernel, by decide +kernel, by decide +kernel, ?_⟩,
      by decide +kernel, by decide, by decide +kernel, by decide +kernel⟩,
    ⟨⟨rfl, rfl, rfl, rfl⟩, fun _ => ⟨by decide +kernel, by decide +kernel, by decide +kernel, ?_⟩, by decide +kernel,
      by decide⟩,
    ⟨site_ready _ _ _ _, site_round, by decide +kernel, by decide +kernel, by decide, by decide, by decide +kernel⟩,
    ⟨⟨rfl, rfl, rfl, rfl⟩, fun _ => ⟨by decide +kernel, by decide +kernel, by decide +kernel, by decide +kernel⟩,
      by decide +kernel, by decide +kernel, by decide +kernel, by decide +kernel, by decide +kernel, by decide +kernel⟩⟩
  · decide +kernel
  · decide +kernel

def record : JournalRecord :=
  { sequence := 0, closeTime := 0, timeValid := true, card := 5, kind := .guest, account := none, chamber := 0,
    fraction := .paper, outcome := .deposit, charged := false }

theorem witness_JournalReleaseRemovesTheOldest :
    (Ready (site .opened) ∧ (1 : Seconds) ≠ (site .opened).headSeq ∧
      ¬ ((3072 ≤ (site .opened).ret.journal.length ∧ (site .opened).ret.journal.length - 0 < 3072) ∨
        (4096 ≤ (site .opened).roomTaken ∧ (site .opened).roomTaken - 0 < 4096))) ∧
    (let s := (site .opened).onRet fun r => { r with journal := List.replicate 3072 record }
     Ready s ∧ min (1 : BitVec 16).toNat s.ret.journal.length = 1 ∧ 3072 ≤ s.ret.journal.length ∧
       s.ret.journal.length - 1 < 3072) := by
  have h : ((site .opened).onRet fun r => { r with journal := List.replicate 3072 record }).ret.journal.length = 3072 :=
    List.length_replicate ..
  refine ⟨⟨site_ready _ _ _ _, by decide +kernel, by decide +kernel⟩, ⟨rfl, rfl, rfl, rfl⟩, ?_, ?_, ?_⟩
  · rw [h]; rfl
  · rw [h]
  · rw [h]; decide

theorem witness_SiteSetWritesMaskedSettings :
    Ready (site .opened) ∧ ((0xFF : Byte).getLsbD 0 = true ∧ 32 ≤ (32 : Byte).toNat) ∧
      ((0xFF : Byte).getLsbD 0 = true → (31 : Byte).toNat < 32) ∧ ((0xFE : Byte).getLsbD 0 = true → (32 : Byte).toNat < 32) ∧
      (0xFF : Byte).getLsbD 3 = true ∧ (site .opened).main.line.power.state = .active ∧
      (Ready (powered .dormant (site .opened)) ∧ (powered .dormant (site .opened)).main.line.power.state ≠ .active ∧
        max 60 (min 3600 (1 : BitVec 16).toNat) ≠ 0) :=
  ⟨site_ready _ _ _ _, by decide, by decide, by decide, by decide, by decide +kernel, ⟨rfl, rfl, rfl, rfl⟩,
    by decide +kernel, by decide⟩

theorem witness_LineDormantByPowerState :
    (let s := withSession .posted (site .opened)
     Ready s ∧ s.main.line.power.state = .active ∧ s.openSessions ≠ 0) ∧
    (Ready (site .opened) ∧ (site .opened).main.line.power.state = .active ∧
      ¬ ((site .opened).openSessions ≠ 0 ∨ ∃ p, (look (site .opened).ret.visits p).isSome = true)) ∧
    (Ready (powered .preparing (site .opened)) ∧ (powered .preparing (site .opened)).main.line.power.state = .preparing) ∧
    (Ready (powered .dormant (site .opened)) ∧ (powered .dormant (site .opened)).main.line.power.state = .dormant) ∧
    (Ready (powered .waking (site .opened)) ∧ (powered .waking (site .opened)).main.line.power.state = .waking) :=
  ⟨⟨⟨rfl, rfl, rfl, rfl⟩, by decide +kernel, by decide +kernel⟩,
    ⟨site_ready _ _ _ _, by decide +kernel, by decide +kernel⟩, ⟨⟨rfl, rfl, rfl, rfl⟩, rfl⟩, ⟨⟨rfl, rfl, rfl, rfl⟩, rfl⟩,
    ⟨⟨rfl, rfl, rfl, rfl⟩, rfl⟩⟩

theorem witness_LineRequestsByPowerState :
    Ready (powered .preparing (site .opened)) ∧ (powered .preparing (site .opened)).main.line.power.state = .preparing ∧
      (powered .dormant (site .opened)).main.line.power.state = .dormant ∧
      (powered .waking (site .opened)).main.line.power.state = .waking ∧
      (site .opened).main.line.power.state = .active ∧ (site .opened).main.line.census.state ≠ .running ∧
      (Ready (census .running .contend (site .opened)) ∧
        (census .running .contend (site .opened)).main.line.census.state = .running) :=
  ⟨⟨rfl, rfl, rfl, rfl⟩, rfl, rfl, rfl, rfl, by decide +kernel, ⟨rfl, rfl, rfl, rfl⟩, rfl⟩

theorem witness_LineResetClearsTheLine :
    Ready (site .opened) ∧ AccessLaw (site .opened) ∧ VisitLaw (site .opened) ∧
      ((site .opened).chamber 0).config.isSome = true ∧ ((site .opened).entry 0).isSome = true :=
  ⟨site_ready _ _ _ _, site_access, site_visits _ _ _ _, by decide +kernel, by decide +kernel⟩

def holding (cmd : Command) : State := postCommand 0 cmd (site .opened)

theorem witness_PostedCommandMeetsThePendingOne :
    ((site .opened).slot 0).pending = none ∧ ((holding (.deny .full)).slot 0).pending = some (.deny .full, 0) ∧
      ((holding (.unlock 30)).slot 0).pending = some (.unlock 30, 0) ∧ ((holding .lock).slot 0).pending = some (.lock, 0) ∧
      ((holding .release).slot 0).pending = some (.release, 0) ∧ isDeny (.deny .full) = true ∧ isUnlock (.unlock 30) = true := by
  decide +kernel

theorem site_posting : PostingLaw (site .opened) := ⟨by decide +kernel, by decide +kernel⟩

/-- A LOCK waits for chamber 0, behind a DENY for chamber 9, which no node serves. -/
def queuedLock : State := postCommand 0 .lock (postCommand 9 (.deny .noChamber) (site .opened))

/-- The state in which no turn came before and no census waits. -/
def settledLine (s : State) : State := (census .idle .contend s).onLine fun l => { l with lastQuery := true }

theorem witness_StartOfATurnLeavesTheRest :
    (during .query (site .opened)).main.line.turn.isSome = true ∧
    (PostingLaw (site .opened) ∧ (site .opened).main.line.turn = none ∧ (site .opened).main.posting = [] ∧
      (site .opened).main.line.power.state = .active ∧ (site .opened).main.line.dropDue = false ∧
      (site .opened).main.line.attention.won = none ∧ (site .opened).main.line.lastQuery = false ∧
      (site .opened).main.line.census.state = .pending) ∧
    (powered .waking (site .opened)).main.line.power.state = .waking ∧
    ((site .opened).onLine fun l => { l with dropDue := true }).main.line.dropDue = true ∧
    (let s := powered .preparing (settledLine (site .opened))
     s.main.line.power.state = .preparing ∧ (∀ c, look s.main.sched.owed c = false) ∧
       (∀ st, look s.main.sched.inflight st = none) ∧ s.main.posting = [] ∧ s.main.line.census.state = .idle ∧
       ∀ a e, s.entry a = some e → e.binding ≠ .pending) ∧
    (PostingLaw queuedLock ∧ queuedLock.main.posting = [9] ++ 0 :: [] ∧ (queuedLock.chamber 9).config = none ∧
      (queuedLock.chamber 0).config = some aConfig ∧ (queuedLock.station 0).node = .online ∧
      (queuedLock.station 0).address = some 0 ∧ (queuedLock.slot 0).pending = some (.lock, 0)) ∧
    (let s := (settledLine (site .opened)).setEntry 0 (some { anEntry with binding := .pending })
     s.main.line.lastQuery = true ∧ ∀ a e, s.entry a = some e → a = 0 ∧ e.binding = .pending) ∧
    (∀ k ∈ [CensusStep.contend, .assign, .status], (census .running k (site .opened)).main.line.census.next = k) ∧
    (let s := settledLine (site .opened)
     PostingLaw s ∧ s.main.line.lastQuery = true ∧ s.main.line.census.state = .idle ∧ (s.chamber 0).lastAttempt = none ∧
       s.session 0 = none ∧ look s.main.sched.inflight 0 = none ∧ ∀ c, c ≠ 0 → (s.chamber c).config = none) := by
  refine ⟨rfl, ⟨site_posting, ?_⟩, ?_, ?_, ?_, ⟨⟨?_, ?_⟩, ?_⟩, ?_, ?_, ⟨site_posting, ?_⟩⟩ <;> decide +kernel

/-- The WON read-out is the first choice, with its class and toggle (section 9.3). -/
theorem witness_ReadOutIsChosen :
    ((site .opened).onLine fun l => { l with attention := { l.attention with won := some (.card, 0) } }).main.line.attention.won
      = some (.card, 0) := rfl

theorem witness_ExpiryRepeatsThenFails :
    (site .opened).vdd = true ∧ (site .opened).main.line.turn = none ∧
      (during (.measure 0 0) (site .opened)).main.line.turn =
        some { kind := .measure 0 0, frame := [], repeated := false, windowMs := 40 } ∧
      (∀ k ∈ [TurnKind.command 0 0, .measure 0 0, .read .echo 0, .assign 15, .status 15, .bindStatus 15],
        k.isTransaction = true ∧
          (during k (site .opened) true).main.line.turn =
            some { kind := k, frame := [], repeated := true, windowMs := 40 }) ∧
      ∀ cmd ∈ [Command.unlock 30, .deny .full, .lock, .release],
        ((sending cmd (site .opened)).slot 0).sending = some cmd := by decide +kernel

theorem witness_DiscardedFramesChangeNothing :
    (∀ cmd ∈ [Command.unlock 30, .deny .full, .lock, .release],
      (sending cmd (site .opened)).vdd = true ∧ (sending cmd (site .opened)).turnKind = some (.command 0 0) ∧
        ((sending cmd (site .opened)).slot 0).sending = some cmd) ∧
      openLineFrame [] ≠ some (addrByte 0, 0x90, []) ∧
      openLineFrame (lineFrame 2 0x98 []) ≠ some (addrByte 0, 0x98, []) ∧
      (∀ k ∈ [TurnKind.measure 0 0, .assign 15, .read .hatch 0, .status 0, .bindStatus 0],
        (during k (site .opened)).turnKind = some k) ∧
      openLineFrame (answerFrame 0 0x09 [1, 4, 1]) = some (addrByte 0, 0x89, [1, 4, 1]) ∧
      readAnswer .hatch [1, 4, 1] = none ∧ openLineFrame (statusFrame 0 7 ++ [0]) = none ∧
      openLineFrame (answerFrame 0 0x04 (split48 7 ++ [5, 0, 0, 0, 0])) =
        some (addrByte 0, 0x84, split48 7 ++ [5, 0, 0, 0, 0]) ∧ 4 < (5 : Byte).toNat := by decide +kernel

theorem witness_MissRunsAndNodeLoss :
    (let s := sending (.deny .full) (site .opened)
     s.vdd = true ∧ s.turnKind = some (.command 0 0) ∧ (s.slot 0).sending = some (.deny .full) ∧ VisitLaw s ∧
       s.entry 0 = some anEntry ∧ anEntry.station = some 0 ∧ anEntry.binding = .none ∧ (s.station 0).missRun + 1 < 3) ∧
    (let s := (sending (.deny .full) (site .opened)).onStation 0 fun x => { x with missRun := 2 }
     s.turnKind = some (.command 0 0) ∧ s.entry 0 = some anEntry ∧ 3 ≤ (s.station 0).missRun + 1) ∧
    (let s := during (.command 0 15) (sending (.deny .full) (withNode (site .opened)))
     s.turnKind = some (.command 0 15) ∧
       s.entry 15 = some { serial := 8, station := none, missRun := 2, binding := .none } ∧ 3 ≤ 2 + 1) ∧
    (let s := during (.command 0 14) (sending (.deny .full) (site .opened))
     s.turnKind = some (.command 0 14) ∧ s.entry 14 = none) :=
  ⟨⟨rfl, rfl, by decide +kernel, site_visits .opened none 0 0, by decide +kernel, rfl, rfl, by decide +kernel⟩,
    by decide +kernel, by decide +kernel, by decide +kernel⟩

theorem witness_UnlockEndForItsSession :
    (let s := sending (.unlock 30) (withSession .sent (site .opened))
     s.vdd = true ∧ s.turnKind = some (.command 0 0) ∧ (s.slot 0).sending = some (.unlock 30) ∧
       s.session 0 = some (aSession .sent) ∧ (aSession .sent).phase = .sent ∧ (aSession .sent).charged = true ∧
       (aSession .sent).account = some 3) ∧
    (let s := sending (.unlock 30) (withVisit .draining (withSession .sent (site .locking)))
     s.phaseOf 0 = some .draining ∧ (s.slot 0).pending = none) ∧
    (let s := sending (.unlock 30) (site .opened)
     s.session 0 = none) := by decide +kernel

theorem witness_DenyAndReleaseEnds :
    (let s := sending (.deny .full) (site .opened)
     s.vdd = true ∧ s.turnKind = some (.command 0 0) ∧ (s.slot 0).sending = some (.deny .full)) ∧
    (let s := sending .release (site .full)
     (s.slot 0).sending = some .release ∧ s.access 0 = .full ∧ s.session 0 = none) ∧
    (let s := sending .release (site .blocked)
     (s.slot 0).sending = some .release ∧ ¬ ((s.access 0 = .opened ∨ s.access 0 = .full) ∧ s.session 0 = none)) := by
  decide +kernel

theorem witness_LockEndByAccessState :
    (let s := sending .lock (withVisit .locking (listed (anItem .normal (.inVisit 0)) (site .locking)))
     s.vdd = true ∧ s.turnKind = some (.command 0 0) ∧ (s.slot 0).sending = some .lock ∧ s.access 0 = .locking ∧
       s.phaseOf 0 = some .locking ∧ s.roundEntry 0 = some (anItem .normal (.inVisit 0)) ∧ s.visitOf 0 = some 0 ∧
       look s.ret.visits 0 = some (aVisit .locking) ∧
       ∀ i ∈ (aVisit .locking).involved, i.chamber ≠ 0 → i.phase.final = true) ∧
    (let v : Visit := { aVisit .locking with involved := [⟨0, .locking⟩, ⟨1, .locked⟩] }
     let s := sending .lock ((site .locking).setVisits (put (site .locking).ret.visits 0 (some v)))
     s.visitOf 0 = some 0 ∧ look s.ret.visits 0 = some v ∧ ∃ i ∈ v.involved, i.chamber ≠ 0 ∧ i.phase.final = false) ∧
    (let s := sending .lock (withVisit .draining (site .locking))
     s.access 0 = .locking ∧ s.phaseOf 0 = some .draining) ∧
    (sending .lock (site .lifted)).access 0 = .lifted ∧ (sending .lock (site .full)).access 0 = .full := by
  decide +kernel

theorem witness_MeasurementEndsAndPeriodDeadline :
    (let s := during (.measure 0 0) (site .opened)
     s.vdd = true ∧ s.turnKind = some (.measure 0 0) ∧ look s.main.sched.inflight 0 = none) ∧
    (∀ d ∈ [true, false],
      let s := during (.measure 0 0) (measuring d .sending (site .opened))
      look s.main.sched.inflight 0 =
        some { chamber := 0, slot := 0, issued := 0, phase := .sending, disturbed := d }) ∧
    (∀ d ∈ [true, false],
      let s := measuring d (.waiting { start := 0, span := 3 }) (site .opened)
      look s.main.sched.inflight 0 =
          some { chamber := 0, slot := 0, issued := 0, phase := .waiting { start := 0, span := 3 }, disturbed := d } ∧
        s.main.line.census.state ≠ .running ∧ (s.chamber 0).config.isSome = true) ∧
    (let s := (site .opened).onCensus fun k => { k with period := some { start := 0, span := 60 } }
     s.main.line.census.period = some { start := 0, span := 60 } ∧ s.main.line.power.state = .active) ∧
    (let s := powered .waking ((site .opened).onCensus fun k => { k with period := some { start := 0, span := 60 } })
     s.main.line.census.period = some { start := 0, span := 60 } ∧ s.main.line.power.state = .waking) ∧
    (census .running .contend (site .opened)).main.line.census.state = .running ∧
    (site .opened).main.line.census.period = none := by decide +kernel

theorem witness_AttentionsAreWonAndReadOut :
    (let s := during .query (site .opened)
     s.vdd = true ∧ s.turnKind = some .query ∧ (96 + 1 : Byte).toNat % 32 = 1 ∧
       AttnClass.number .echo = (96 + 1 : Byte).toNat / 32 ∧ (0 : AddrNo).val + 1 = (96 + 1 : Byte).toNat % 32 ∧
       (s.entry 0).isSome = true ∧ 4 ≤ (129 : Byte).toNat / 32 ∧ (32 : Byte).toNat % 32 = 0 ∧ 16 < (17 : Byte).toNat % 32 ∧
       (15 : AddrNo).val + 1 = (16 : Byte).toNat % 32 ∧ s.entry 15 = none) ∧
    (∀ k ∈ [AttnClass.lift, .hatch, .card, .echo], (during (.read k 0) (site .opened)).turnKind = some (.read k 0)) ∧
    (site .opened).entry 0 = some anEntry ∧ (site .opened).entry 15 = none := by decide +kernel

/-- The state with the read-out of a card at chamber 0 on the line. -/
def presenting (s : State) : State := during (.read .card 0) s

theorem witness_CardGrantOpensASession :
    let s := presenting (withAccount .opened 9 (withCard (aCard .active none) (site .opened)))
    s.vdd = true ∧ s.turnKind = some (.read .card 0) ∧ s.handedStation 0 = some 0 ∧ s.mapped 0 0 = some 0 ∧
      (s.chamber 0).config = some aConfig ∧ admits s 0 5 .resident 31 (some 3) ∧
      (31 : FractionSet).getLsbD aConfig.fraction.code = true ∧ (look s.ret.accounts 3).state = .opened ∧
      s.access 0 = .opened ∧ s.session 0 = none ∧ (look s.ret.accounts 3).allowance = .limited 10 ∧
      (look s.ret.accounts 3).used + (look s.ret.accounts 3).held < 10 + (look s.ret.accounts 3).overdraft ∧
      s.roomTaken < 4096 :=
  ⟨rfl, rfl, by decide +kernel, by decide +kernel, by decide +kernel,
    ⟨by decide, .inl ⟨aCard .active none, by decide +kernel, rfl, fun _ h => absurd h.symm (Option.some_ne_none _), rfl, rfl, rfl⟩⟩,
    by decide, by decide +kernel, by decide +kernel, by decide +kernel, by decide +kernel, by decide +kernel,
    by decide +kernel⟩

theorem witness_CardRefusalsPostTheFirstFailure :
    (let s := presenting (site .opened)
     s.vdd = true ∧ s.turnKind = some (.read .card 0) ∧ s.handedStation 0 = some 0 ∧ s.mapped 0 0 = some 0 ∧
       s.mapped 0 3 = none ∧ (s.chamber 0).config = some aConfig ∧ s.access 0 ≠ .offline ∧ s.findCard 5 = none ∧
       s.firstTemplate 5 = none) ∧
    (presenting State.reset).handedStation 0 = none ∧
    (let s := presenting (site .offline)
     s.access 0 = .offline ∧ (s.station 0).node = .online) ∧
    (let s := presenting ((site .offline).onStation 0 fun x => { x with node := .offline })
     s.access 0 = .offline ∧ (s.station 0).node ≠ .online ∧ s.handedStation 0 = some 0) ∧
    ((presenting (withCard (aCard .lost none) (site .opened))).findCard 5 = some (aCard .lost none)) ∧
    ((presenting (withCard (aCard .suspended none) (site .opened))).findCard 5 = some (aCard .suspended none)) ∧
    ((aCard .active (some 2)).scope = some 2 ∧ (2 : StationSet).getLsbD (0 : StationNo).val = false) := by decide +kernel

theorem witness_RefusalsOfAnAdmittedCard :
    (∀ a : Access, admits (presenting (withAccount .opened 9 (withCard (aCard .active none) (site a)))) 0 5 .resident 31
      (some 3)) ∧
    (∀ a ∈ [Access.full, .locking, .locked, .lifted, .blocked],
      (presenting (withAccount .opened 9 (withCard (aCard .active none) (site a)))).access 0 = a) ∧
    (look (presenting (withAccount .unused 9 (withCard (aCard .active none) (site .opened)))).ret.accounts 3).state = .unused ∧
    (look (presenting (withAccount .closed 9 (withCard (aCard .active none) (site .opened)))).ret.accounts 3).state = .closed ∧
    ((presenting (withSession .sent (withAccount .opened 9 (withCard (aCard .active none) (site .opened))))).session 0).isSome
      = true ∧
    (let s := presenting (withAccount .opened 10 (withCard (aCard .active none) (site .opened)))
     s.ret.settings.charged.getLsbD aConfig.fraction.code = true ∧ (look s.ret.accounts 3).allowance = .limited 10 ∧
       10 + (look s.ret.accounts 3).overdraft ≤ (look s.ret.accounts 3).used + (look s.ret.accounts 3).held) ∧
    (30 : FractionSet).getLsbD aConfig.fraction.code = false :=
  ⟨fun a => ⟨by decide, .inl ⟨aCard .active none, rfl, rfl, fun _ h => absurd h.symm (Option.some_ne_none _), rfl, rfl, rfl⟩⟩,
    by decide +kernel, by decide +kernel, by decide +kernel, by decide +kernel, by decide +kernel, by decide⟩

theorem witness_CrewCardOpensAVisit :
    (let s := presenting (withCrew (site .opened))
     s.vdd = true ∧ s.turnKind = some (.read .card 0) ∧ s.handedStation 0 = some 0 ∧ s.mapped 0 0 = some 0 ∧
       (s.chamber 0).config.isSome = true ∧ s.access 0 ≠ .offline ∧ (9 : CardNo) ≠ 0 ∧ s.findCard 9 = none ∧
       s.firstTemplate 9 = some 7 ∧ (look s.ret.templates 7).kind = .crew .all ∧ s.visitAt 0 = none ∧
       look s.ret.visits 0 = none ∧ (s.chamber 0).config = some aConfig ∧ s.access 0 = .opened) ∧
    (let s := presenting (withCrew (withVisit .locked (site .locked)))
     s.visitAt 0 = some 0 ∧ look s.ret.visits 0 = some (aVisit .locked) ∧ (aVisit .locked).crew = 9) ∧
    (let s := presenting (withCrew ((site .opened).setVisits
        (Vector.replicate 4 (some { aVisit .locked with station := 15 }))))
     s.visitAt 0 = none ∧ ∀ p, (look s.ret.visits p).isSome = true) := by decide +kernel

theorem witness_HatchReportClosesTheSession :
    (let s := during (.read .hatch 0) (withSession .answered (site .opened))
     s.vdd = true ∧ s.turnKind = some (.read .hatch 0) ∧ s.handedStation 0 = some 0 ∧ s.mapped 0 0 = some 0 ∧
       s.session 0 = some (aSession .answered) ∧ (aSession .answered).phase = .answered ∧ s.access 0 ≠ .offline ∧
       (s.chamber 0).config = some aConfig ∧ (aSession .answered).charged = true ∧ (aSession .answered).account = some 3) ∧
    (let s := during (.read .hatch 0) (site .opened)
     s.mapped 0 3 = none ∧ s.session 0 = none) ∧
    (let s := during (.read .hatch 15) (withNode (site .opened))
     s.turnKind = some (.read .hatch 15) ∧ s.handedStation 15 = none) ∧
    (aSession .sent).phase ≠ .answered ∧ ((3 : Byte) ≠ 1 ∧ (3 : Byte) ≠ 2) := by decide +kernel

theorem witness_LiftOutAndReturn :
    (∀ a ∈ [Access.offline, .opened, .full, .locking, .locked, .lifted, .blocked], ∀ m ∈ [none, some (LiftMark.mk 5 0)],
      let s := during (.read .lift 0) (site a m)
      s.vdd = true ∧ s.turnKind = some (.read .lift 0) ∧ s.handedStation 0 = some 0 ∧ s.mapped 0 0 = some 0 ∧
        (s.chamber 0).config = some aConfig ∧ s.access 0 = a ∧ (s.chamber 0).liftMark = m) ∧
    300 ≤ aConfig.request ∧ 350 ≤ aConfig.full ∧
    (let s := during (.read .lift 15) (withNode (site .opened))
     s.turnKind = some (.read .lift 15) ∧ s.handedStation 15 = none ∧ s.mapped 0 3 = none) ∧
    (let s := during (.read .lift 0) (withVisit .draining (withSession .answered (site .locking)))
     s.session 0 = some (aSession .answered) ∧ s.phaseOf 0 = some .draining ∧ (s.slot 0).pending = none) ∧
    (∀ ph ∈ [Phase.lifted, .blocked, .left], (aVisit ph).phaseOf 0 = some ph ∧
      (∀ i ∈ (aVisit ph).involved, i.chamber ≠ 0 → i.phase.final = true)) ∧ (∀ ph k, VisitLaw (visited ph k)) ∧
    (∃ i ∈ (twoChambers .lifted).involved, i.chamber ≠ 0 ∧ i.phase.final = false) ∧
    (twoChambers .lifted).phaseOf 0 = some .lifted := by
  exact ⟨by decide +kernel, by decide +kernel, by decide +kernel, by decide +kernel, by decide +kernel, by decide +kernel,
    visited_visits, by decide +kernel, by decide +kernel⟩

theorem witness_EchoBecomesAReading :
    (∀ d ∈ [true, false],
      let s := during (.read .echo 0) (measuring d (.waiting { start := 0, span := 3 }) (site .opened none 180 9))
      s.vdd = true ∧ s.turnKind = some (.read .echo 0) ∧ s.handedStation 0 = some 0 ∧
        look s.main.sched.inflight 0 =
          some { chamber := 0, slot := 0, issued := 0, phase := .waiting { start := 0, span := 3 }, disturbed := d } ∧
        (s.chamber 0).config = some aConfig ∧ 0 < aConfig.usable) ∧
    look (during (.read .echo 0) (site .opened)).main.sched.inflight 0 = none ∧
    (let s := during (.read .echo 15) (withNode (site .opened))
     s.turnKind = some (.read .echo 15) ∧ s.handedStation 15 = none) ∧
    (let s := during (.read .echo 0) ((site .opened).setInflight 0
        (some { chamber := 9, slot := 1, issued := 0, phase := .sending, disturbed := true }))
     s.handedStation 0 = some 0 ∧ (s.chamber 9).config = none) := by decide +kernel

theorem witness_CensusStepsAndEnd :
    (during .censusOpen (site .opened)).turnKind = some .censusOpen ∧ (site .opened).vdd = true ∧
    (let s := during .contend (site .opened)
     s.turnKind = some .contend ∧ s.addressOf 9 = none ∧ s.entry 1 = none ∧ look s.main.line.withheld 1 = false ∧
       (∀ o : AddrNo, o < 1 → (s.entry o).isSome = true ∨ look s.main.line.withheld o = true) ∧ s.addressOf 7 = some 0 ∧
       s.entry 0 = some anEntry) ∧
    (let s := during .contend ((site .opened).onLine fun l => { l with withheld := Vector.replicate 16 true })
     s.turnKind = some .contend ∧ s.addressOf 9 = none ∧ s.addressOf 7 = some 0 ∧ s.entry 0 = some anEntry ∧
       ∀ b, (s.entry b).isSome = true ∨ look s.main.line.withheld b = true) ∧
    (during (.assign 15) (site .opened)).turnKind = some (.assign 15) ∧
    (withSession .sent (site .opened)).session 0 = some (aSession .sent) ∧
    40 - ((withSession .sent (site .opened)).elapsed - (0 : Seconds)).toNat = 40 ∧
    (let d : Deadline := { start := 0, span := 9 }
     let y : Session := { aSession .sent with guard := some d }
     let s := (site .opened).setSession 0 (some y)
     s.session 0 = some y ∧ y.guard = some d ∧ d.span - (s.elapsed - d.start).toNat = 9) := by decide +kernel

theorem witness_StatusAnswerBringsTheStationOnline :
    (let s := during (.status 0) (site .offline)
     s.vdd = true ∧ s.entry 0 = some anEntry ∧
       openLineFrame (statusFrame 0 7) = some (addrByte 0, 0x84, split48 anEntry.serial ++ [4, 0, 0, 0, 0]) ∧
       1 ≤ (4 : Byte).toNat ∧ (4 : Byte).toNat ≤ 4 ∧ s.turnKind = some (.status 0) ∧ s.stationOf 7 = some 0 ∧ (s.chamber 0).config = some aConfig ∧
       s.access 0 = .offline ∧ aConfig.station = 0 ∧ 300 ≤ aConfig.request ∧ 350 ≤ aConfig.full) ∧
    (let s := during (.bindStatus 0) (site .offline (some ⟨5, 0⟩))
     s.turnKind = some (.bindStatus 0) ∧ anEntry.station = some 0 ∧ (s.chamber 0).liftMark.isSome = true ∧
       (s.chamber 0).config.isSome = true) := by
  decide +kernel

theorem witness_UnboundAndFailedStatus :
    (let s := during (.status 15) (withNode (site .opened))
     s.vdd = true ∧ s.entry 15 = some { serial := 8, station := none, missRun := 2, binding := .none } ∧
       openLineFrame (statusFrame 15 8) = some (addrByte 15, 0x84, split48 8 ++ [4, 0, 0, 0, 0]) ∧
       s.turnKind = some (.status 15) ∧ s.stationOf 8 = none) ∧
    (during (.bindStatus 15) (withNode (site .opened))).turnKind = some (.bindStatus 15) := by decide +kernel

theorem witness_ChamberDeadlines :
    (let s := withSession .sent (site .opened)
     s.vdd = true ∧ s.session 0 = some (aSession .sent) ∧ (aSession .sent).guard = some { start := 0, span := 40 } ∧
       s.main.line.census.state ≠ .running ∧ (s.chamber 0).config = some aConfig) ∧
    (census .running .contend (site .opened)).main.line.census.state = .running ∧ (site .opened).session 0 = none ∧
    (∀ a ∈ [Access.lifted, .offline, .blocked],
      let s := (site a).setReturn 0 (some { start := 0, span := 600 })
      s.vdd = true ∧ look s.main.returns 0 = some { start := 0, span := 600 } ∧ s.access 0 = a) ∧
    look (site .opened).main.returns 0 = none ∧
    (∀ v ∈ [aVisit .lifted, twoChambers .lifted],
      let s := ((site .lifted).setVisits (put (site .lifted).ret.visits 0 (some v))).setReturn 0 (some { start := 0, span := 600 })
      look s.main.returns 0 = some { start := 0, span := 600 } ∧ s.access 0 = .lifted ∧ s.visitOf 0 = some 0 ∧
        look s.ret.visits 0 = some v) ∧ (site .lifted).visitOf 0 = none := by decide +kernel

theorem witness_VisitDeadlineExpiresTheVisit :
    (∀ p ∈ [Phase.draining, .locking, .locked, .lifted, .emptied],
      let s := withVisit p (site .locking)
      s.vdd = true ∧ s.visitAt 0 = some 0 ∧ look s.ret.visits 0 = some (aVisit p) ∧
        (aVisit p).deadline = some { start := 0, span := 1200 } ∧ ((aVisit p).involved.map (·.chamber)).Nodup) ∧
    (site .opened).visitAt 0 = none ∧
    (∀ p ∈ [Phase.draining, .locked, .lifted], ∀ n ∈ [699, 700],
      let e : Entry := { anItem .normal (.inVisit 0) with skips := 2 }
      let s := listed e (withVisit p (site .locked none n 0))
      s.roundEntry 0 = some e ∧ s.access 0 = .locked ∧ s.fill 0 = n ∧ aConfig.request - 50 = 700 ∧
        s.ret.round.length + (aVisit p).involved.length ≤ 32 ∧
        (s.ret.round.length ≤ 32 ∧ (s.ret.round.map (·.chamber)).Nodup ∧ ∀ o ∈ s.ret.round, s.candidate o.chamber = false)) := by
  decide +kernel

theorem witness_LinePowerEvents :
    (let s := (site .opened).onPower fun w => { w with quiet := some { start := 0, span := 60 } }
     s.vdd = true ∧ s.main.line.power.state = .active ∧ s.main.line.power.quiet = some { start := 0, span := 60 } ∧
       s.quietSite = true ∧ (withSession .sent s).quietSite = false) ∧
    (let s := during .dormantCast (powered .preparing (site .opened))
     s.turnKind = some .dormantCast ∧ s.main.line.power.state = .preparing ∧ s.main.line.power.dormant = none) ∧
    (during .dropAddress (site .opened)).turnKind = some .dropAddress ∧
    (let s := powered .dormant ((site .opened).onPower fun w => { w with dormant := some { start := 0, span := 900 } })
     s.main.line.power.state = .dormant ∧ s.main.line.power.dormant = some { start := 0, span := 900 } ∧ 1000 ≤ 1000 ∧
       999 < 1000 ∧ s.main.line.power.state ≠ .waking) ∧
    (∀ d ∈ [true, false],
      let s := powered .waking ((site .opened).onLine fun l => { l with dropDue := d })
      s.main.line.power.state = .waking ∧ s.main.line.dropDue = d) ∧ (site .opened).main.line.power.quiet = none := by
  decide +kernel

/-- A full list of the chambers 1..32: chamber 32 may be displaced, or, forced, no chamber may. -/
def fullListOf (forced : Bool) : State :=
  (site .full none 960 0).setRound
    ((List.range 32).map fun i => { anItem .normal .waiting with chamber := Fin.ofNat 64 (i + 1), forced := forced })

theorem witness_ThresholdEvaluationAndOffers :
    (RoundLaw (site .opened) ∧ (site .opened).vdd = true ∧ ((site .opened).chamber 0).config = some aConfig ∧
      (site .opened).roundEntry 0 = none ∧ (site .opened).ret.round.length < 32 ∧ (site .opened).fill 0 < 700) ∧
    (∀ f ∈ [true, false], RoundLaw (fullListOf f) ∧ (fullListOf f).ret.round.length = 32 ∧
      (fullListOf f).roundEntry 0 = none ∧ ((fullListOf f).chamber 0).config = some aConfig ∧
      (fullListOf f).candidate 0 = false ∧ aConfig.request ≤ (fullListOf f).fill 0) ∧
    (∃ older d, (fullListOf false).ret.round = older ++ d :: [] ∧
      d.state = .waiting ∧ d.forced = false ∧ d.urgency = .normal) ∧
    (∀ o ∈ (fullListOf true).ret.round, o.forced = true) ∧
    (∀ n ∈ [699, 700, 950],
      let s := listed (anItem .normal .waiting) (site .opened none n 0)
      RoundLaw s ∧ s.roundEntry 0 = some (anItem .normal .waiting) ∧ s.fill 0 = n ∧ ∀ o, s.candidate o = false) ∧
    (∀ n ∈ [700, 749, 750], (site .opened none n 0).fill 0 = n ∧ (site .opened none n 0).roundEntry 0 = none) := by
  refine ⟨⟨site_round, by decide +kernel, by decide +kernel, by decide +kernel, by decide +kernel, by decide +kernel⟩,
    fun f _ => ⟨fun _ => ?_, ?_⟩, ⟨(fullListOf false).ret.round.take 31, { anItem .normal .waiting with chamber := 32 }, ?_⟩,
    by decide +kernel, fun n hn => ⟨fun _ => ?_, ?_⟩, by decide +kernel⟩
  · cases f <;> exact ⟨by decide +kernel, by decide +kernel, by decide +kernel, by decide +kernel⟩
  · cases f <;> decide +kernel
  · decide +kernel
  · exact ⟨by simp [listed, State.setRound, State.onRet], by simp [listed, State.setRound, State.onRet],
      by simp [listed, State.setRound, State.onRet], fun e he => by
        have : (look State.reset.main.candidates e.chamber) = false := by
          show look (Vector.replicate 64 false) e.chamber = false
          simp
        exact this⟩
  · simp only [List.mem_cons, List.not_mem_nil, or_false] at hn
    rcases hn with rfl | rfl | rfl <;> decide +kernel

/-- A WAITING entry to withdraw, and one candidate, chamber 9, to take its slot. -/
theorem witness_WithdrawalAdmitsTheCandidate :
    let s := ((listed (anItem .normal .waiting) (site .opened none 699 0)).setFlag 9 true).onChamber 9 fun ch =>
      { ch with config := some aConfig }
    RoundLaw s ∧ s.roundEntry 0 = some (anItem .normal .waiting) ∧ s.fill 0 < aConfig.request - 50 ∧
      s.candidate 9 = true ∧ (s.chamber 9).config = some aConfig ∧
      ∀ o, s.candidate o = true → s.fill o ≤ s.fill 9 ∧ (s.fill o = s.fill 9 → 9 ≤ o) := by
  refine ⟨fun _ => ⟨by decide +kernel, by decide +kernel, by decide +kernel, by decide +kernel⟩, ?_⟩
  decide +kernel

/-- Every law that a step is stated to keep holds of the small site, and a step of it answers a next state. -/
theorem witness_StepKeepsTheLaws :
    let s := site .opened
    HostLaw s ∧ PostingLaw s ∧ PowerLaw s ∧ DormancyLaw s ∧ SequenceLaw s ∧ RoomLaw s ∧ RoundLaw s ∧ EstimateLaw s ∧
      CardLaw s ∧ HeldLaw s ∧ SiteMapLaw s ∧ AccessLaw s ∧ VisitLaw s ∧ StationLaw s ∧ LineTableLaw s ∧
      ∃ t, step s = .next t := by
  refine ⟨⟨by decide +kernel, by decide +kernel, by decide +kernel⟩, ⟨by decide +kernel, by decide +kernel⟩,
    ⟨by decide +kernel, by decide +kernel, by decide +kernel, by decide +kernel⟩, fun _ => by decide +kernel,
    fun _ i h => absurd h (Nat.not_lt_zero i), fun _ => by decide +kernel, site_round, fun _ => by decide +kernel,
    fun _ => ⟨by decide +kernel, by decide +kernel, by decide +kernel⟩, site_held, site_siteMap _ _ _ _, site_access,
    site_visits _ _ _ _, site_stations, site_table, idle (site .opened), rfl⟩

end Sys2Proof.Tests
end

section
/-! PROOFS. How a request that arrives at a ready part stands replied, what a sweep request and a wake make of the state,
and the line requests by the power state (R54, R146, R165, R167, R169). -/

namespace Sys2Proof.Machine

/-! ## A request taken at once (R175) -/

/-- A command that carries a request is the arrival of the request's frame. -/
theorem exec_of_request {i : Instr} {tag : Byte} {r : Request} (h : i.request = some (tag, r)) (s : State) :
    exec i s = .next (arrive tag r s) := by
  cases i <;> cases h <;> rfl

theorem onHost_congr {s : State} {f g : HostLink → HostLink} (h : f s.main.host = g s.main.host) :
    s.onHost f = s.onHost g := by
  simp only [State.onHost, State.onMain, h]

theorem onHost_onHost (f g : HostLink → HostLink) (s : State) : (s.onHost f).onHost g = s.onHost (g ∘ f) := rfl

/-- A ready reply goes on HTX where the transmitter is free, and waits where it is not (R181). -/
theorem kickTx_of_reply {s : State} {f : List Byte} (hr : s.main.host.reply = some f)
    (hd : s.main.host.restartDue = false) :
    kickTx s = s.onHost fun h => { h with tx := some (h.tx.getD (.reply f)) } := by
  cases ht : s.main.host.tx with
  | none =>
    have hk : kickTx s = s.onHost fun h => { h with tx := some (.reply f) } := by simp [kickTx, ht, hd, hr]
    rw [hk]
    exact onHost_congr (by simp [ht])
  | some x =>
    have hk : kickTx s = s.onHost id := by simp [kickTx, ht, State.onHost, State.onMain]
    have hx : s.main.host.tx = some (s.main.host.tx.getD (.reply f)) := by rw [ht]; rfl
    rw [hk]
    exact onHost_congr (congrArg (fun x => { s.main.host with tx := x }) hx)

/-- The request at the head of the queue is handed to its owner, whose reply becomes ready (R175). -/
theorem takeHead_of_queue {s : State} {q : Queued} {rest : List Queued} (hq : s.main.host.queue = q :: rest)
    (hr : s.main.host.reply = none) (hd : s.main.host.restartDue = false) :
    takeHead s = (act q.req s).1.onHost fun h =>
      { h with reply := some (replyFrame (requestKind q.req) q.tag (act q.req s).2) } := by
  simp only [takeHead, hq, hr, hd]

/-- Whatever a request does, it leaves the host link but for the outbox. -/
theorem act_host (r : Request) (s : State) :
    ∃ outbox, (act r s).1.main.host = { s.main.host with outbox := outbox } := by
  have h : { (act r s).1.main.host with outbox := [] } = { s.main.host with outbox := [] } :=
    congrArg (fun x => x.2.2.2.2) (outer_act s r)
  exact ⟨_, congrArg (fun h : HostLink => { h with outbox := (act r s).1.main.host.outbox }) h⟩

/-- A request that arrives at a ready part is handed to its owner at once, and stands with the owner's reply. -/
theorem arrive_of_ready {tag : Byte} {s : State} (htag : tag ≠ 0) (hs : Ready s) (r : Request) :
    arrive tag r s = replied tag r (act r (queued tag r s)).2 (act r (queued tag r s)).1 := by
  obtain ⟨hvdd, hqueue, hreply, hdue⟩ := hs
  have hq : (queued tag r s).main.host.queue = [{ tag := tag, req := r }] := by simp [queued, hqueue]
  have hroom : s.main.host.queue.length < Config.queueRoom := by rw [hqueue]; decide
  have htake : enqueue tag r s = takeHead (queued tag r s) := by
    rw [enqueue, if_pos hroom]; simp only [hqueue, List.isEmpty_nil, if_true]; rfl
  obtain ⟨outbox, hhost⟩ := act_host r (queued tag r s)
  rw [arrive, if_neg (not_or.2 ⟨by simp [hvdd], htag⟩), htake, takeHead_of_queue hq hreply hdue,
    kickTx_of_reply rfl (by rw [State.onHost_main_host, hhost]; exact hdue), onHost_onHost]
  unfold replied
  refine onHost_congr ?_
  simp only [Function.comp, hhost, hq]

/-- A reply stands alike whether the state it stands in holds the request already or not. -/
theorem replied_queued (tag : Byte) (r : Request) (rep : Reply) (s : State) :
    replied tag r rep (queued tag r s) = replied tag r rep s := rfl

/-- A request command at a ready part ends with the owner's reply to it. -/
theorem exec_of_ready {i : Instr} {tag : Byte} {r : Request} {s t : State} {rep : Reply}
    (hi : i.request = some (tag, r)) (htag : tag ≠ 0) (hs : Ready s) (hact : act r (queued tag r s) = (t, rep)) :
    exec i s = .next (replied tag r rep t) := by
  rw [exec_of_request hi, arrive_of_ready htag hs, hact]

/-! ## Changes of the power state (R162, R165, R167) -/

theorem posted_post (k : Key) (s : State) : posted k (post k s) :=
  List.mem_map.1 (mem_postWith s k 0 0)

theorem posted_changePower (p : PowerState) (k : PowerCause) (s : State) : posted .line (changePower p k s) :=
  posted_post ..

/-- The power record of a line that begins to wake (R167). -/
def woken (k : PowerCause) (s : State) : Power :=
  { s.main.line.power with state := .waking, cause := k, changed := s.now, dormant := none, lpw := .full,
                           settleMs := some 150 }

theorem posted_wake (k : PowerCause) (s : State) : posted .line (wake k s) := posted_changePower ..

@[simp] theorem wake_ret (k : PowerCause) (s : State) : (wake k s).ret = s.ret := rfl
@[simp] theorem wake_main_sched (k : PowerCause) (s : State) : (wake k s).main.sched = s.main.sched := rfl
@[simp] theorem wake_main_line (k : PowerCause) (s : State) :
    (wake k s).main.line = { s.main.line with power := woken k s } := rfl

theorem posted_setQuiet {k : Key} {s : State} : posted k (setQuiet s) ↔ posted k s := Iff.rfl

theorem abandonPreparation_of_preparing {s : State} (h : s.main.line.power.state = .preparing) (k : PowerCause) :
    abandonPreparation k s = setQuiet (changePower .active k s) := if_pos h

/-! ## A full sweep request (R53) -/

/-- What a sweep request does at one chamber. -/
def sweepAt (c : ChamberNo) (s : State) : State :=
  let s := s.onChamber c fun ch => { ch with due := true }
  if inService (s.access c) then s.onSched fun d => { d with owed := put d.owed c true } else s

theorem requestSweep_eq (s : State) :
    requestSweep s = eachOf ((indexes 64).filter fun c => (s.chamber c).config.isSome) sweepAt s := rfl

/-- `t` is `s` with the chambers that meet `p` due, and in the sweep-owed set where they are in service; nothing else of
the retained domain or the line differs. -/
structure Swept (p : ChamberNo → Bool) (s t : State) : Prop where
  line : t.main.line = s.main.line
  ret : t.ret = { s.ret with chambers := t.ret.chambers }
  chamber : ∀ c, t.chamber c = { s.chamber c with due := (s.chamber c).due || p c }
  owed : ∀ c, look t.main.sched.owed c = (look s.main.sched.owed c || (p c && inService (s.access c)))

theorem sweepAt_swept (c : ChamberNo) (s : State) : Swept (· = c) s (sweepAt c s) := by
  have hacc : (s.onChamber c fun ch => { ch with due := true }).access c = s.access c := by
    simp [State.access, State.chamber_onChamber]
  have hch : (sweepAt c s).ret = (s.onChamber c fun ch => { ch with due := true }).ret := by
    unfold sweepAt; dsimp only; split <;> rfl
  refine ⟨?_, ?_, fun d => ?_, fun d => ?_⟩
  · unfold sweepAt; dsimp only; split <;> rfl
  · rw [hch]; rfl
  · have hd : (sweepAt c s).chamber d = (s.onChamber c fun ch => { ch with due := true }).chamber d := by
      rw [State.chamber, hch, State.chamber]
    rw [hd, State.chamber_onChamber]
    by_cases h : d = c <;> simp [h]
  · unfold sweepAt; dsimp only; rw [hacc]
    by_cases h : d = c <;> cases hs : inService (s.access c) <;> simp [h, hs, look_put]

theorem Swept.trans {p q : ChamberNo → Bool} {s t u : State} (h : Swept p s t) (k : Swept q t u) :
    Swept (fun c => p c || q c) s u where
  line := k.line.trans h.line
  ret := by rw [k.ret, h.ret]
  chamber c := by rw [k.chamber, h.chamber, Bool.or_assoc]
  owed c := by
    have hacc : t.access c = s.access c := by rw [State.access, h.chamber]; rfl
    rw [k.owed, h.owed, hacc, Bool.or_assoc, ← Bool.and_or_distrib_right]

theorem eachOf_sweepAt_swept (l : List ChamberNo) (s : State) :
    Swept (fun c => decide (c ∈ l)) s (eachOf l sweepAt s) := by
  induction l generalizing s with
  | nil => exact ⟨rfl, rfl, fun c => by simp [eachOf], fun c => by simp [eachOf]⟩
  | cons d l ih => simpa [eachOf] using (sweepAt_swept d s).trans (ih (sweepAt d s))

/-- A sweep request makes every configured chamber due, and each of them that is in service owed (R53). -/
theorem requestSweep_swept (s : State) : Swept (fun c => (s.chamber c).config.isSome) s (requestSweep s) := by
  simpa [requestSweep_eq, indexes] using
    eachOf_sweepAt_swept ((indexes 64).filter fun c => (s.chamber c).config.isSome) s

theorem inService_eq (a : Access) : inService a = (a = .opened || a = .full) := by cases a <;> rfl

/-! ## The line requests at each power state -/

theorem takeLineWake_unchanged {s : State} (h : s.main.line.power.state = .active ∨ s.main.line.power.state = .waking) :
    takeLineWake s = (arbitrate s, { result := .ok, content := powerByte s }) := by
  rcases h with h | h <;> simp only [takeLineWake, h]

theorem takeLineWake_preparing {s : State} (h : s.main.line.power.state = .preparing) :
    takeLineWake s = (arbitrate (setQuiet (changePower .active .hostWake s)),
      { result := .ok, content := nat8 PowerState.active.code }) := by
  simp only [takeLineWake, h, abandonPreparation_of_preparing h]; rfl

theorem takeLineWake_dormant {s : State} (h : s.main.line.power.state = .dormant) :
    takeLineWake s = (arbitrate (wake .hostWake s), { result := .ok, content := nat8 PowerState.waking.code }) := by
  simp [takeLineWake, h, powerByte, woken]

theorem takeLineSweep_awake {s : State}
    (h : s.main.line.power.state = .active ∨ s.main.line.power.state = .preparing) :
    takeLineSweep s = (arbitrate (requestSweep s),
      { result := .ok, content := nat8 s.main.line.power.state.code ++ nat8 (requestSweep s).owedCount }) := by
  have hp : powerByte (requestSweep s) = nat8 s.main.line.power.state.code := by
    rw [powerByte, (requestSweep_swept s).line]
  rw [← hp]
  rcases h with h | h <;> simp only [takeLineSweep, h]

theorem takeLineSweep_dormant {s : State} (h : s.main.line.power.state = .dormant) :
    takeLineSweep s = (arbitrate (wake .hostSweep s),
      { result := .ok, content := nat8 PowerState.waking.code ++ nat8 s.owedCount }) := by
  simp [takeLineSweep, h, powerByte, woken, State.owedCount]

theorem takeLineSweep_waking {s : State} (h : s.main.line.power.state = .waking) :
    takeLineSweep s = (arbitrate s,
      { result := .ok, content := nat8 PowerState.waking.code ++ nat8 s.owedCount }) := by
  simp only [takeLineSweep, powerByte, h]

theorem takeLineCensus_running {s : State} (h : s.main.line.census.state = .running) :
    takeLineCensus s = (s, bare .busy) :=
  if_pos (decide_eq_true h)

/-- The state after a census request from the host: the census PENDING, and a dormant line waking (R146, R169). -/
def censusAsked (s : State) : State :=
  let t := s.onCensus fun k => { k with state := .pending }
  if s.main.line.power.state = .dormant then wake .hostCensus t else t

theorem takeLineCensus_taken {s : State} (h : s.main.line.census.state ≠ .running) :
    takeLineCensus s = (arbitrate (censusAsked s),
      { result := .ok, content := nat8 (censusAsked s).main.line.power.state.code }) :=
  if_neg fun hk => h (of_decide_eq_true hk)

theorem censusAsked_ret (s : State) : (censusAsked s).ret = s.ret := by
  unfold censusAsked; dsimp only; split <;> rfl

theorem censusAsked_line (s : State) : (censusAsked s).main.line = { s.main.line with
    census := { s.main.line.census with state := .pending }
    power := if s.main.line.power.state = .dormant then woken .hostCensus s else s.main.line.power } := by
  unfold censusAsked; dsimp only; split <;> rfl

theorem censusAsked_state (s : State) : (censusAsked s).main.line.power.state =
    if s.main.line.power.state = .dormant then .waking else s.main.line.power.state := by
  rw [censusAsked_line]; exact apply_ite Power.state ..

/-- Settles O27: each request is taken at once and answered with its owner's reply, so the owners' equations at each
power state say the rest. -/
theorem lineRequestsByPowerState : Obligations.LineRequestsByPowerState := by
  intro tag s htag hs
  dsimp only
  have exec_wake {t rep} (h : takeLineWake (queued tag .lineWake s) = (t, rep)) :
      exec (.lineWake tag) s = .next (replied tag .lineWake rep t) := exec_of_ready rfl htag hs h
  have exec_sweep {t rep} (h : takeLineSweep (queued tag .lineSweep s) = (t, rep)) :
      exec (.lineSweep tag) s = .next (replied tag .lineSweep rep t) := exec_of_ready rfl htag hs h
  have exec_census {t rep} (h : takeLineCensus (queued tag .lineCensus s) = (t, rep)) :
      exec (.lineCensus tag) s = .next (replied tag .lineCensus rep t) := exec_of_ready rfl htag hs h
  refine ⟨?wakeUnchanged, ?wakePreparing, ?wakeDormant, ?sweepAwake, ?sweepDormant, ?sweepWaking, ?censusRunning,
    ?censusTaken⟩
  case wakeUnchanged => exact fun hw => exec_wake (takeLineWake_unchanged hw)
  case wakePreparing =>
    exact fun hw => ⟨_, exec_wake (takeLineWake_preparing hw), rfl, posted_setQuiet.2 (posted_changePower ..), rfl, rfl⟩
  case wakeDormant =>
    exact fun hw => ⟨_, exec_wake (takeLineWake_dormant hw), wake_ret .., posted_wake .., wake_main_line ..⟩
  case sweepAwake =>
    intro hw
    have hx := requestSweep_swept (queued tag .lineSweep s)
    exact ⟨_, exec_sweep (takeLineSweep_awake hw), hx.line, hx.ret, hx.chamber, fun c => by
      rw [hx.owed, inService_eq]; rfl⟩
  case sweepDormant =>
    exact fun hw => ⟨_, exec_sweep (takeLineSweep_dormant hw), wake_ret .., posted_wake .., wake_main_line ..⟩
  case sweepWaking => exact fun hw => exec_sweep (takeLineSweep_waking hw)
  case censusRunning =>
    intro hk
    rw [← replied_queued]
    exact exec_census (takeLineCensus_running hk)
  case censusTaken =>
    intro hk
    refine ⟨_, censusAsked_ret (queued tag .lineCensus s), censusAsked_line (queued tag .lineCensus s), ?_⟩
    exact exec_census (censusAsked_state (queued tag .lineCensus s) ▸ takeLineCensus_taken hk)

end Sys2Proof.Machine
end

section
/-! PROOFS. What the laws of cards and accounts read of a state (R56, R59), and which operations leave that as it stands. -/

namespace Sys2Proof.Machine

/-! ## Counting the places of a table -/

section
variable {α : Type} {n : Nat}

theorem countWhere_eq_indexes (p : α → Bool) (v : Vector α n) :
    countWhere p v = (indexes n).countP fun i => p (look v i) := by
  have h : v.toArray.toList = (List.finRange n).map (look v) := by
    refine List.ext_getElem (by simp) fun i _ _ => ?_
    simp [look]
  rw [countWhere, h, List.countP_map]; rfl

theorem countWhere_congr {p q : α → Bool} {v w : Vector α n} (h : ∀ i, p (look v i) = q (look w i)) :
    countWhere p v = countWhere q w := by
  simp only [countWhere_eq_indexes, h]

theorem countWhere_put (p : α → Bool) (v : Vector α n) (i : Fin n) (x : α) :
    countWhere p (put v i x) = countWhere p v - (if p (look v i) then 1 else 0) + if p x then 1 else 0 := by
  have h : i.val < v.toArray.toList.length := by simp
  exact List.countP_set h

end

/-! ## What the two laws read -/

/-- What the laws of cards and accounts read of a state: the card numbers in table order, and for each account its held
count and the number of open sessions charged to it. -/
structure Books where
  numbers : List CardNo
  held    : AccountNo → Nat
  charged : AccountNo → Nat

/-- The books of a state. -/
def books (s : State) : Books where
  numbers := s.ret.cards.map (·.number)
  held a := (look s.ret.accounts a).held
  charged a := chargedTo a s

/-- The card table is in order (R56), and every account's held count is the number of sessions charged to it (R59). -/
structure Books.Balanced (b : Books) : Prop where
  ascending : b.numbers.Pairwise (· < ·)
  nonzero   : ∀ n ∈ b.numbers, n ≠ 0
  room      : b.numbers.length ≤ 8192
  held      : ∀ a, b.held a = b.charged a

theorem cardLaw_and_heldLaw_iff {s : State} : CardLaw s ∧ HeldLaw s ↔ (Known s → (books s).Balanced) := by
  constructor
  · rintro ⟨hc, hh⟩ hk
    obtain ⟨hasc, hnz, hroom⟩ := hc hk
    exact ⟨List.pairwise_map.2 hasc, by simpa [books] using hnz, by simpa [books] using hroom, hh hk⟩
  · refine fun h => ⟨fun hk => ?_, fun hk => (h hk).held⟩
    obtain ⟨hasc, hnz, hroom, -⟩ := h hk
    exact ⟨List.pairwise_map.1 hasc, by simpa [books] using hnz, by simpa [books] using hroom⟩

/-- The session is charged to the account. -/
def Session.charges (a : AccountNo) (x : Session) : Bool := x.charged && x.account = some a

/-! ## Updates that leave the books -/

section
variable (s : State) (c : ChamberNo) (st : StationNo) (a : AddrNo)

theorem books_of_ret {s t : State} (h : t.ret = s.ret) : books t = books s := by
  simp only [books, chargedTo, h]

theorem books_of_listFree {s t : State} (h : listFree s = listFree t) : books s = books t :=
  show books (listFree s) = books (listFree t) from congrArg books h

@[simp] theorem books_onHost (f : HostLink → HostLink) : books (s.onHost f) = books s := rfl
@[simp] theorem books_onLine (f : Line → Line) : books (s.onLine f) = books s := rfl
@[simp] theorem books_onSched (f : Scheduler → Scheduler) : books (s.onSched f) = books s := rfl
@[simp] theorem books_onPower (f : Power → Power) : books (s.onPower f) = books s := rfl
@[simp] theorem books_onCensus (f : Census → Census) : books (s.onCensus f) = books s := rfl
@[simp] theorem books_onChamber (f : Chamber → Chamber) : books (s.onChamber c f) = books s := rfl
@[simp] theorem books_onEstimate (f : Estimate → Estimate) : books (s.onEstimate c f) = books s := rfl
@[simp] theorem books_onStation (f : Station → Station) : books (s.onStation st f) = books s := rfl
@[simp] theorem books_onClock (f : Clock → Clock) : books (s.onClock f) = books s := rfl
@[simp] theorem books_setVisits (v : Vector (Option Visit) 4) : books (s.setVisits v) = books s := rfl
@[simp] theorem books_setMapped (sl : SlotNo) (o : Option ChamberNo) :
    books (s.setMapped st sl o) = books s := rfl
@[simp] theorem books_setSlot (x : CommandSlot) : books (s.setSlot c x) = books s := rfl
@[simp] theorem books_setPosting (l : List ChamberNo) : books (s.setPosting l) = books s := rfl
@[simp] theorem books_setReturn (d : Option Deadline) : books (s.setReturn c d) = books s := rfl
@[simp] theorem books_setEntry (o : Option LineEntry) : books (s.setEntry a o) = books s := rfl
@[simp] theorem books_setTurn (t : Option Turn) : books (s.setTurn t) = books s := rfl
@[simp] theorem books_setInflight (o : Option Inflight) : books (s.setInflight st o) = books s := rfl
@[simp] theorem books_post (k : Key) : books (post k s) = books s := rfl
@[simp] theorem books_postWith (k : Key) (n : CardNo) (x : Serial) : books (postWith k n x s) = books s := rfl
@[simp] theorem books_alarm (t : AlarmType) : books (alarm t c s) = books s := rfl
@[simp] theorem books_postNode (x : Serial) : books (postNode a x s) = books s := rfl
@[simp] theorem books_passTo (d : Deadline) : books (passTo d s) = books s := rfl

@[simp] theorem books_eachOf {α : Type} (l : List α) (f : α → State → State)
    (h : ∀ x s, books (f x s) = books s) (s : State) : books (eachOf l f s) = books s := by
  induction l generalizing s with
  | nil => rfl
  | cons x l ih => exact (ih (f x s)).trans (h x s)

/-! ## Access states, the round list and the estimates leave the books -/

@[simp] theorem books_setAccess (x : Access) : books (setAccess c x s) = books s := books_of_listFree (by simp)
@[simp] theorem books_rewriteEntry (f : Entry → Entry) :
    books (rewriteEntry c f s) = books s := books_of_listFree (by simp)
@[simp] theorem books_changeRound (l : List Entry) :
    books (changeRound l s) = books s := books_of_listFree (by simp)
@[simp] theorem books_setCandidate (b : Bool) :
    books (setCandidate c b s) = books s := books_of_listFree (by simp)
@[simp] theorem books_removeEntry : books (removeEntry c s) = books s := books_of_listFree (by simp)
@[simp] theorem books_promote : books (promote c s) = books s := books_of_listFree (by simp)
@[simp] theorem books_entryWaits (b : Bool) : books (entryWaits c b s) = books s := books_of_listFree (by simp)
@[simp] theorem books_entryInVisit : books (entryInVisit c st s) = books s := books_of_listFree (by simp)
@[simp] theorem books_makeEntry (u : Urgency) (b : Bool) :
    books (makeEntry c u b s) = books s := books_of_listFree (by simp)
@[simp] theorem books_evaluate : books (evaluate c s) = books s := books_of_listFree (by simp)
@[simp] theorem books_depositStep : books (depositStep c s) = books s := books_of_listFree (by simp)
@[simp] theorem books_takeMiss : books (takeMiss c s) = books s := books_of_listFree (by simp)
@[simp] theorem books_takeReading (t q : Nat) (x : Int) :
    books (takeReading c t q x s) = books s := books_of_listFree (by simp)
@[simp] theorem books_requestSweep : books (requestSweep s) = books s := books_of_listFree (by simp)
@[simp] theorem books_disturb : books (disturb c s) = books s := books_of_listFree (by simp)
@[simp] theorem books_dropOwed : books (dropOwed c s) = books s := books_of_listFree (by simp)

/-! ## Slots, visits and the journal leave the books -/

@[simp] theorem books_abandonTurn (p : TurnKind → Bool) : books (abandonTurn p s) = books s := by
  rcases abandonTurn_cases s p with h | h <;> simp [h]
@[simp] theorem books_dropPending : books (dropPending c s) = books s := books_of_ret (dropPending_step s c).ret
@[simp] theorem books_postCommand (x : Command) :
    books (postCommand c x s) = books s := books_of_ret (postCommand_step s c x).ret
@[simp] theorem books_removePending (p : Command → Bool) :
    books (removePending p c s) = books s := books_of_ret (removePending_step s c p).ret
@[simp] theorem books_clearSlot : books (clearSlot c s) = books s := by
  unfold clearSlot; simp
@[simp] theorem books_setPhaseAt (p : Fin 4) (ph : Phase) : books (setPhaseAt p c ph s) = books s := by
  unfold setPhaseAt; split <;> simp
@[simp] theorem books_setPhase (ph : Phase) : books (setPhase c ph s) = books s := by
  unfold setPhase; split <;> simp
@[simp] theorem books_closeInvolved (i : Involved) : books (closeInvolved i s) = books s := by
  unfold closeInvolved; dsimp only; repeat' split
  all_goals simp
@[simp] theorem books_closeVisit (p : Fin 4) (o : VisitOutcome) : books (closeVisit p o s) = books s := by
  unfold closeVisit; split
  · rfl
  · exact books_eachOf _ closeInvolved (fun i s => books_closeInvolved s i) s
@[simp] theorem books_checkComplete (p : Fin 4) : books (checkComplete p s) = books s := by
  unfold checkComplete; repeat' split
  all_goals simp
theorem books_finishPhase (ph : Phase) {f : State → State} (h : ∀ t, books (f t) = books t) :
    books (finishPhase c ph f s) = books s := by
  unfold finishPhase; split <;> simp [h]
@[simp] theorem books_visitLeft : books (visitLeft st s) = books s := by
  unfold visitLeft; repeat' split
  · rfl
  · rfl
  · rw [books_closeVisit]
    refine books_eachOf _ _ (fun x s => ?_) s
    split <;> simp
@[simp] theorem books_changePower (p : PowerState) (k : PowerCause) : books (changePower p k s) = books s := by
  unfold changePower; simp
@[simp] theorem books_setQuiet : books (setQuiet s) = books s := by
  unfold setQuiet; simp
@[simp] theorem books_abandonPreparation (k : PowerCause) : books (abandonPreparation k s) = books s := by
  unfold abandonPreparation; split <;> simp
@[simp] theorem books_involve : books (involve st c s) = books s := by
  unfold involve; dsimp only; split <;> simp
@[simp] theorem books_openVisit (p : Fin 4) (n : CardNo) (m : VisitMode) :
    books (openVisit p st n m s) = books s := by
  unfold openVisit; simp
@[simp] theorem books_takeCrew (n : CardNo) (m : VisitMode) : books (takeCrew st c n m s) = books s := by
  unfold takeCrew; repeat' split
  all_goals simp
@[simp] theorem books_appendRecord (r : JournalRecord) : books (appendRecord r s) = books s := by
  unfold appendRecord; dsimp only; split <;> rfl
@[simp] theorem books_settleJournal (x : Session) (o : Option JournalOutcome) :
    books (settleJournal c x o s) = books s := by
  unfold settleJournal; repeat' split
  all_goals simp
@[simp] theorem books_countDeposit (o : Option JournalOutcome) : books (countDeposit c o s) = books s := by
  unfold countDeposit; split <;> simp
@[simp] theorem books_endDrain : books (endDrain c s) = books s := by
  unfold endDrain; split <;> simp

/-! ## Refusals, lifts and emptying leave the books -/

@[simp] theorem books_refuse (n : CardNo) (d : DenyCode) : books (refuse c n d s) = books s := by
  unfold refuse; dsimp only; split <;> simp
@[simp] theorem books_markLift : books (markLift c s) = books s := by
  unfold markLift; simp
@[simp] theorem books_ensureReturn : books (ensureReturn c s) = books s := by
  unfold ensureReturn; split <;> simp
@[simp] theorem books_openByFill : books (openByFill c s) = books s := by
  unfold openByFill; simp
@[simp] theorem books_returnToService : books (returnToService c s) = books s := by
  unfold returnToService; repeat' split
  all_goals simp
@[simp] theorem books_emptyChamber : books (emptyChamber c s) = books s := by
  unfold emptyChamber; simp
@[simp] theorem books_visitEmptied (p : Fin 4) : books (visitEmptied c p s) = books s := by
  unfold visitEmptied; split <;> simp
@[simp] theorem books_emptied : books (emptied c s) = books s := by
  unfold emptied; simp
@[simp] theorem books_liftLocked : books (liftLocked c s) = books s := by
  unfold liftLocked; simp
@[simp] theorem books_liftBlocked : books (liftBlocked c s) = books s := by
  unfold liftBlocked; simp
@[simp] theorem books_takeIn : books (takeIn c s) = books s := by
  unfold takeIn; repeat' split
  all_goals simp
@[simp] theorem books_lockEnded (b : Bool) : books (lockEnded c b s) = books s := by
  unfold lockEnded; repeat' split
  case h_1.isFalse => rw [books_finishPhase _ _ _ (fun t => by simp)]; simp
  all_goals simp
@[simp] theorem books_releaseEnded (b : Bool) : books (releaseEnded c b s) = books s := by
  unfold releaseEnded; dsimp only; repeat' split
  all_goals simp
@[simp] theorem books_returnPassed : books (returnPassed c s) = books s := by
  unfold returnPassed; split
  · exact (books_finishPhase _ _ _ fun _ => rfl).trans (by simp)
  all_goals simp

/-! ## Measurements, the line and the census leave the books -/

@[simp] theorem books_issueMeasure (g : ChamberConfig) : books (issueMeasure c g s) = books s := by
  unfold issueMeasure; simp
@[simp] theorem books_endDisturbed : books (endDisturbed c s) = books s := by
  unfold endDisturbed; split <;> simp
@[simp] theorem books_measureEnded (b : Bool) : books (measureEnded st b s) = books s := by
  unfold measureEnded; dsimp only; repeat' split
  all_goals simp
@[simp] theorem books_takeEcho (o : Option StationNo) (sl : SlotNo) (t q : Nat) (x : Int) :
    books (takeEcho o sl t q x s) = books s := by
  unfold takeEcho; dsimp only; repeat' split
  all_goals simp
@[simp] theorem books_measureTimedOut (r : Inflight) : books (measureTimedOut st r s) = books s := by
  unfold measureTimedOut; dsimp only; split <;> simp
@[simp] theorem books_clearInflight : books (clearInflight st s) = books s := by
  unfold clearInflight; simp
@[simp] theorem books_moveTimeouts : books (moveTimeouts s) = books s := by
  unfold moveTimeouts; simp
/-- Sessions that are charged alike give the same books. -/
theorem books_of_sessions {s t : State} (hc : t.ret.cards = s.ret.cards) (ha : t.ret.accounts = s.ret.accounts)
    (hs : ∀ c a, (t.session c).any (Session.charges a) = (s.session c).any (Session.charges a)) : books t = books s := by
  have hq : ∀ a, chargedTo a t = chargedTo a s := fun a => countWhere_congr fun c => hs c a
  simp only [books, hc, ha, hq]

/-- A change of a session's phase leaves what it is charged to. -/
theorem books_setSession_phase {x : Session} (hx : s.session c = some x) (ph : UnlockPhase) :
    books (s.setSession c (some { x with phase := ph })) = books s := by
  refine books_of_sessions rfl rfl fun d b => ?_
  rw [State.session_setSession]
  split
  · next hd => rw [hd, hx]; rfl
  · rfl

@[simp] theorem books_moveGuards : books (moveGuards s) = books s := by
  refine books_of_sessions rfl rfl fun c a => ?_
  simp only [moveGuards, State.session, State.onRet_ret, look_mapAll]
  cases look s.ret.sessions c with
  | none => rfl
  | some x => simp only [Option.map_some]; repeat' split
              all_goals rfl

@[simp] theorem books_startTurn (k : TurnKind) (f : List Byte) : books (startTurn k f s) = books s := by
  unfold startTurn; simp
@[simp] theorem books_withhold : books (withhold a s) = books s := by
  unfold withhold; simp
@[simp] theorem books_removeAddress : books (removeAddress a s) = books s := by
  unfold removeAddress; simp
@[simp] theorem books_releaseNode (x : Serial) : books (releaseNode a x s) = books s := by
  unfold releaseNode; simp
@[simp] theorem books_freeLine : books (freeLine s) = books s := by
  unfold freeLine; simp
@[simp] theorem books_enterPreparing (k : PowerCause) : books (enterPreparing k s) = books s := by
  unfold enterPreparing; simp
@[simp] theorem books_wake (k : PowerCause) : books (wake k s) = books s := by
  unfold wake; simp
@[simp] theorem books_requestCensus : books (requestCensus s) = books s := by
  unfold requestCensus; simp
@[simp] theorem books_endCensus : books (endCensus s) = books s := by
  unfold endCensus; dsimp only; rw [books_post]; split <;> simp
@[simp] theorem books_reconcileChamber (v : Vector SlotReport 4) :
    books (reconcileChamber st v c s) = books s := by
  unfold reconcileChamber; dsimp only; repeat' split
  all_goals simp
@[simp] theorem books_bringOnline (x : StatusAnswer) : books (bringOnline a st x s) = books s := by
  unfold bringOnline; simp
@[simp] theorem books_nextStep (k : CensusStep) : books (nextStep k s) = books s := by
  unfold nextStep; simp
@[simp] theorem books_statusAnswered (x : StatusAnswer) : books (statusAnswered a x s) = books s := by
  unfold statusAnswered; dsimp only; split <;> simp
@[simp] theorem books_statusFailed : books (statusFailed a s) = books s := by
  unfold statusFailed; simp
@[simp] theorem books_bindingAnswered (x : StatusAnswer) : books (bindingAnswered a st x s) = books s := by
  unfold bindingAnswered; simp
@[simp] theorem books_bindingFailed (x : Serial) : books (bindingFailed a x s) = books s := by
  unfold bindingFailed; simp
@[simp] theorem books_assignAnswered (x : Serial) : books (assignAnswered a x s) = books s := by
  unfold assignAnswered; simp
@[simp] theorem books_assignFailed : books (assignFailed a s) = books s := by
  unfold assignFailed; simp
@[simp] theorem books_takeQuery (b : Bool) (w : Byte) : books (takeQuery b w s) = books s := by
  unfold takeQuery; dsimp only; repeat' split
  all_goals simp
theorem books_pickFree {α : Type} (l : List α) : books (pickFree l s).2 = books s := by
  unfold pickFree; split <;> rfl
/-! ## The arbiter and the transmitter leave the books -/

@[simp] theorem books_startRead (k : AttnClass) : books (startRead k a s) = books s := by
  unfold startRead; simp
@[simp] theorem books_sendPending (sl : SlotNo) (x : Command) : books (sendPending c a sl x s) = books s := by
  unfold sendPending; dsimp only
  rw [books_startTurn]
  split
  · next y hy =>
    split
    · exact (books_setSession_phase _ c hy .sent).trans (by simp)
    · simp
  · simp
@[simp] theorem books_servePosting (l : List ChamberNo) : books (servePosting l s) = books s := by
  induction l generalizing s with
  | nil => rfl
  | cons d l ih => unfold servePosting; split <;> simp [ih]
@[simp] theorem books_startQuery : books (startQuery s) = books s := by
  unfold startQuery; simp
@[simp] theorem books_choiceCommand : books (choiceCommand s) = books s := by
  unfold choiceCommand; split <;> simp
@[simp] theorem books_choiceQuery : books (choiceQuery s) = books s := by
  unfold choiceQuery; split <;> simp
@[simp] theorem books_startBinding : books (startBinding a s) = books s := by
  unfold startBinding; simp
@[simp] theorem books_startCensus : books (startCensus s) = books s := by
  unfold startCensus; simp
@[simp] theorem books_startStep : books (startStep s) = books s := by
  unfold startStep; dsimp only; split <;> simp
@[simp] theorem books_choiceCensus : books (choiceCensus s) = books s := by
  have h := books_pickFree s s.bindingsPending
  unfold choiceCensus; split
  · rename_i heq; rw [heq] at h; simpa using h
  · rename_i heq; rw [heq] at h
    split <;> simpa using h
@[simp] theorem books_choiceMeasure : books (choiceMeasure s) = books s := by
  unfold choiceMeasure; repeat' split
  all_goals simp
@[simp] theorem books_choiceLast : books (choiceLast s) = books s := by
  unfold choiceLast; split <;> simp
@[simp] theorem books_orElseTurn (f : State → State) (h : ∀ s, books (f s) = books s) :
    books (orElseTurn f s) = books s := by
  unfold orElseTurn; split <;> simp [h]
@[simp] theorem books_choose : books (choose s) = books s := by
  unfold choose; simp
@[simp] theorem books_arbitrate : books (arbitrate s) = books s := by
  unfold arbitrate; repeat' split
  all_goals simp
@[simp] theorem books_kickTx : books (kickTx s) = books s := by
  obtain ⟨busy, outbox, tx, h, -⟩ := kickTx_spec s
  rw [h]; rfl
@[simp] theorem books_settle : books (settle s) = books s := by
  unfold settle; simp

/-! ## Requests on chambers, stations, lists, the line and the site leave the books -/

@[simp] theorem books_placeConfig (g : ChamberConfig) : books (placeConfig c g s) = books s := by
  unfold placeConfig; dsimp only; repeat' split
  all_goals simp
@[simp] theorem books_settleAccess (g : ChamberConfig) : books (settleAccess c g s) = books s := by
  unfold settleAccess; repeat' split
  all_goals simp
@[simp] theorem books_configure (g : ChamberConfig) : books (configure c g s) = books s := by
  unfold configure; simp
@[simp] theorem books_unconfigure (g : ChamberConfig) : books (unconfigure c g s) = books s := by
  unfold unconfigure; simp
@[simp] theorem books_dropBindingOf : books (dropBindingOf st s) = books s := by
  unfold dropBindingOf; split <;> simp
@[simp] theorem books_bindAddressed (n : Serial) : books (bindAddressed st n s) = books s := by
  unfold bindAddressed; repeat' split
  all_goals simp
@[simp] theorem books_forceEntry (u : Urgency) : books (forceEntry c u s) = books s := by
  unfold forceEntry; dsimp only; split <;> simp
@[simp] theorem books_addEntry (u : Urgency) : books (addEntry c u s) = books s := by
  unfold addEntry; simp
@[simp] theorem books_releaseRecords (n : Nat) : books (releaseRecords n s) = books s := by
  unfold releaseRecords; dsimp only; split <;> rfl
@[simp] theorem books_resetTurns : books (resetTurns s) = books s := rfl
@[simp] theorem books_resetChambers : books (resetChambers s) = books s := by
  unfold resetChambers; simp
@[simp] theorem books_expireVisits (n : Nat) : books (expireVisits n s) = books s := by
  induction n generalizing s with
  | zero => rfl
  | succ n ih =>
    have h := books_pickFree s ((indexes 4).filter fun p => (look s.ret.visits p).isSome)
    unfold expireVisits; split
    · rename_i heq; rw [heq] at h; simpa [ih] using h
    · rename_i heq; rw [heq] at h; exact h
@[simp] theorem books_resetTable : books (resetTable s) = books s := rfl
@[simp] theorem books_resetPower : books (resetPower s) = books s := by
  unfold resetPower; split <;> simp
@[simp] theorem books_resetFollow : books (resetFollow s) = books s := by
  unfold resetFollow; dsimp only; split <;> simp
@[simp] theorem books_resetNotices (old : Vector (Option LineEntry) 16) :
    books (resetNotices old s) = books s := by
  unfold resetNotices
  rw [books_eachOf _ _ (fun a s => by split <;> simp)]
  simp
@[simp] theorem books_quietWritten : books (quietWritten s) = books s := by
  unfold quietWritten; repeat' split
  all_goals simp
@[simp] theorem books_writeSite (f : SiteFields) (x : FractionSet) : books (writeSite f x s) = books s := by
  have hw : ∀ t : State, books (t.onRet fun r => { r with settings := writeSettings f x r.settings }) = books t := fun _ => rfl
  unfold writeSite; dsimp only; repeat' split
  all_goals simp [hw]

end

end Sys2Proof.Machine
end

section
/-! PROOFS. Closing and opening a session keep the held counts at the sessions charged (R59), and so do the reports and the ends of
transactions that close or open sessions. -/

namespace Sys2Proof.Machine

/-! ## Closing and opening a session keep the books balanced -/

/-- The books once a session is closed: it holds no deposit, and is no longer among the sessions charged to its account. -/
def Books.without (x : Session) (b : Books) : Books :=
  { b with held := fun a => b.held a - if x.charges a then 1 else 0
           charged := fun a => b.charged a - if x.charges a then 1 else 0 }

/-- The books once a session is opened. -/
def Books.including (x : Session) (b : Books) : Books :=
  { b with held := fun a => b.held a + if x.charges a then 1 else 0
           charged := fun a => b.charged a + if x.charges a then 1 else 0 }

theorem Books.Balanced.without {b : Books} (h : b.Balanced) (x : Session) : (b.without x).Balanced :=
  { h with held := fun a => congrArg (· - if x.charges a then 1 else 0) (h.held a) }

theorem Books.Balanced.including {b : Books} (h : b.Balanced) (x : Session) : (b.including x).Balanced :=
  { h with held := fun a => congrArg (· + if x.charges a then 1 else 0) (h.held a) }

section
variable (s : State) (c : ChamberNo) (st : StationNo) (a : AddrNo)

theorem books_setSession (o : Option Session) : books (s.setSession c o) =
    { books s with charged := fun b => (books s).charged b - (if (s.session c).any (Session.charges b) then 1 else 0) +
                    if o.any (Session.charges b) then 1 else 0 } := by
  have h : ∀ b, chargedTo b (s.setSession c o) = _ := fun b => countWhere_put ..
  exact congrArg (fun q => { books s with charged := q }) (funext h)

theorem books_onAccount (b : AccountNo) (f : Account → Account) : books (s.onAccount b f) =
    { books s with held := fun d => if d = b then (f (look s.ret.accounts b)).held else (books s).held d } := by
  have h : ∀ d, (look (s.onAccount b f).ret.accounts d).held = _ := fun d =>
    (congrArg Account.held (look_put ..)).trans (apply_ite Account.held ..)
  exact congrArg (fun q => { books s with held := q }) (funext h)

/-- A change of the held count of a charged session's account. -/
theorem books_onAccount_charged {x : Session} {b : AccountNo} (hc : x.charged = true) (hb : x.account = some b)
    (f : Account → Account) (g : Nat → Nat) (hf : ∀ k, (f k).held = g k.held) : books (s.onAccount b f) =
    { books s with held := fun d => if x.charges d then g ((books s).held d) else (books s).held d } := by
  rw [books_onAccount]
  refine congrArg (fun q => { books s with held := q }) (funext fun d => ?_)
  by_cases h : d = b
  · subst h; simp [Session.charges, hc, hb, hf, books]
  · simp [Session.charges, hc, hb, h, Ne.symm h]

theorem books_settleAccount (x : Session) (o : Option JournalOutcome) : books (settleAccount x o s) =
    { books s with held := fun b => (books s).held b - if x.charges b then 1 else 0 } := by
  unfold settleAccount
  split
  · next b hc hb =>
    rw [books_onAccount_charged s hc hb _ (· - 1) fun k => by unfold Account.settled; split <;> rfl]
    refine congrArg (fun q => { books s with held := q }) (funext fun d => ?_)
    split <;> rfl
  · next h =>
    have hx : ∀ b, x.charges b = false := fun b => by
      cases hc : x.charged <;> cases hd : x.account <;> simp_all [Session.charges]
    simp [hx]

theorem books_closeSession {x : Session} (hx : s.session c = some x) (o : Option JournalOutcome) (drain : Bool) :
    books (closeSession c o drain s) = (books s).without x := by
  have hpost : books (if x.phase = .posted then removePending isUnlock c (s.setSession c none) else s.setSession c none) =
      books (s.setSession c none) := by split <;> simp
  have hmain : books (countDeposit c o (settleJournal c x o (settleAccount x o
      (if x.phase = .posted then removePending isUnlock c (s.setSession c none) else s.setSession c none)))) =
      (books s).without x := by
    simp [books_settleAccount, hpost, books_setSession, hx, Books.without]
  unfold closeSession
  simp only [hx]
  split
  · rw [books_endDrain, hmain]
  · exact hmain

end

@[simp] theorem balanced_closeSession {s : State} (h : (books s).Balanced) (c : ChamberNo) (o : Option JournalOutcome)
    (drain : Bool) : (books (closeSession c o drain s)).Balanced := by
  cases hx : s.session c with
  | none => simpa only [closeSession, hx] using h
  | some x => rw [books_closeSession s c hx]; exact h.without x

section
variable (s : State) (c : ChamberNo) (st : StationNo) (a : AddrNo)

@[simp] theorem books_useCard (n : CardNo) : books (useCard n st s) = books s := by
  have h : (useCard n st s).ret.cards.map (·.number) = s.ret.cards.map (·.number) := by
    simp only [useCard, State.onRet_ret, List.map_map]
    refine List.map_congr_left fun k _ => ?_
    simp only [Function.comp]; split <;> rfl
  exact congrArg (fun q => { books s with numbers := q }) h

theorem books_reserve {g : Grant} {x : Session} (hc : x.charged = g.charged) (ha : x.account = g.account) :
    books (reserve g s) = { books s with held := fun b => (books s).held b + if x.charges b then 1 else 0 } := by
  unfold reserve
  split
  · next b hg hb =>
    rw [books_onAccount_charged s (hc.trans hg) (ha.trans hb) _ (· + 1) fun _ => rfl]
    refine congrArg (fun q => { books s with held := q }) (funext fun d => ?_)
    split <;> rfl
  · next h =>
    have hx : ∀ b, x.charges b = false := fun b => by
      cases hg : g.charged <;> cases hd : g.account <;> simp_all [Session.charges]
    simp [hx]

theorem books_grant (h : s.session c = none) (g : ChamberConfig) (n : CardNo) (x : Grant) :
    books (grant st c g n x s) = (books s).including (newSession n x g.window s) := by
  have hmain : books (reserve x (s.setSession c (some (newSession n x g.window s)))) =
      (books s).including (newSession n x g.window s) := by
    rw [books_reserve (x := newSession n x g.window s) _ rfl rfl, books_setSession, h]
    simp [Books.including]
  unfold grant
  dsimp only
  rw [books_abandonPreparation, books_postCommand, books_disturb, ← hmain]
  split <;> split <;> simp

end

/-- A presentation is granted at a chamber without session alone (R81, check 7). -/
theorem session_eq_none_of_decideFrom4 {s : State} {c : ChamberNo} {g : ChamberConfig} {rights : FractionSet}
    {kind : SessionKind} {account : Option AccountNo} {x : Grant}
    (h : s.decideFrom4 c g rights kind account = .granted x) : s.session c = none := by
  unfold State.decideFrom4 at h
  cases hs : s.session c with
  | none => rfl
  | some y =>
    simp only [hs, Option.isSome_some, if_true] at h
    repeat' split at h
    all_goals cases h

theorem session_eq_none_of_granted {s : State} {st : StationNo} {c : ChamberNo} {g : ChamberConfig} {n : CardNo}
    {x : Grant} (h : s.decide st c g n = .granted x) : s.session c = none := by
  unfold State.decide at h
  split at h
  · cases h
  split at h
  case h_1 => cases h
  case h_2 => cases h
  case h_3 =>
    split at h
    · cases h
    · cases h
    split at h
    · cases h
    · exact session_eq_none_of_decideFrom4 h
  case h_4 => exact session_eq_none_of_decideFrom4 h

/-! ## Presentations, reports and lifts -/

theorem balanced_ite {p : Prop} [Decidable p] {x y : State} (hx : (books x).Balanced) (hy : (books y).Balanced) :
    (books (if p then x else y)).Balanced := by
  split
  · exact hx
  · exact hy

theorem balanced_eachOf {α : Type} {f : α → State → State}
    (hf : ∀ x s, (books s).Balanced → (books (f x s)).Balanced) (l : List α) {s : State} (h : (books s).Balanced) :
    (books (eachOf l f s)).Balanced := by
  induction l generalizing s with
  | nil => exact h
  | cons x l ih => exact ih (hf x s h)

section
variable {s : State} (h : (books s).Balanced) (c : ChamberNo) (st : StationNo) (a : AddrNo)
include h

@[simp] theorem balanced_takeCard (o : Option StationNo) (sl : SlotNo) (n : CardNo) :
    (books (takeCard o sl n s)).Balanced := by
  unfold takeCard
  split
  · exact h
  split
  · exact h
  split
  · exact h
  split
  · split <;> simpa using h
  split
  · next x hx =>
    rw [books_grant _ _ _ (session_eq_none_of_granted hx)]
    exact h.including _
  all_goals simpa using h

@[simp] theorem balanced_takeHatch (o : Option StationNo) (sl : SlotNo) (r : Byte) :
    (books (takeHatch o sl r s)).Balanced := by
  unfold takeHatch; repeat' split
  all_goals simp [h]

@[simp] theorem balanced_liftEarly : (books (liftEarly c s)).Balanced := by
  unfold liftEarly; dsimp only; split <;> simp [h]

@[simp] theorem balanced_liftUnscheduled : (books (liftUnscheduled c s)).Balanced := by
  unfold liftUnscheduled; simp [h]

@[simp] theorem balanced_takeOut : (books (takeOut c s)).Balanced := by
  unfold takeOut; repeat' split
  all_goals simp [h]

@[simp] theorem balanced_takeLift (o : Option StationNo) (sl : SlotNo) (r : Byte) :
    (books (takeLift o sl r s)).Balanced := by
  unfold takeLift; repeat' split
  all_goals simp [h]

@[simp] theorem balanced_handOver (o : Option StationNo) (r : AttnRecord) : (books (handOver o r s)).Balanced := by
  have hq : (books (if s.main.line.power.state = .active then setQuiet s else s)).Balanced := by split <;> simpa using h
  cases r with
  | lift sl report => exact balanced_takeLift hq _ sl report
  | hatch sl report => exact balanced_takeHatch hq _ sl report
  | card sl number => exact balanced_takeCard hq _ sl number
  | echo sl t q temp => simpa [handOver] using h

@[simp] theorem balanced_readAnswered (r : Option AttnRecord) : (books (readAnswered a r s)).Balanced := by
  cases r with
  | none => exact h
  | some r => exact balanced_handOver (s := delivered a s) h _ r

/-! ## Nodes that go, and the census -/

@[simp] theorem balanced_stationOut : (books (stationOut st s)).Balanced := by
  unfold stationOut
  simp only [books_visitLeft]
  exact balanced_eachOf (fun c s h => balanced_closeSession h c _ _) _ (by simpa using h)

@[simp] theorem balanced_loseNode (x : Serial) : (books (loseNode a st x s)).Balanced := by
  unfold loseNode; simp [h]

@[simp] theorem balanced_takeOutEntry : (books (takeOutEntry a s)).Balanced := by
  unfold takeOutEntry; repeat' split
  all_goals simp [h]

@[simp] theorem balanced_countMiss (b : Bool) : (books (countMiss a b s)).Balanced := by
  unfold countMiss
  split
  · exact h
  dsimp only
  split
  · exact balanced_ite (balanced_loseNode (by exact h) ..) (by exact h)
  · exact balanced_ite (by simpa using h) (by exact h)

@[simp] theorem balanced_takeContend (b : Bool) (x : Serial) : (books (takeContend b x s)).Balanced := by
  have ht : ∀ a, (books (takeOutEntry a s)).Balanced := balanced_takeOutEntry h
  unfold takeContend; dsimp only; repeat' split
  all_goals simp [h, ht]

/-! ## The ends of transactions -/

@[simp] theorem balanced_endTurn (b : Bool) : (books (endTurn a b s)).Balanced := by
  unfold endTurn; simp [h]

@[simp] theorem balanced_unlockEnded (b : Bool) : (books (unlockEnded c b s)).Balanced := by
  unfold unlockEnded
  split
  · exact h
  · next x hx =>
    refine balanced_ite (balanced_ite ?_ (balanced_closeSession h ..)) h
    rwa [books_setSession_phase s c hx]

@[simp] theorem balanced_endUnlock (b : Bool) : (books (endUnlock c a b s)).Balanced :=
  balanced_endTurn (balanced_unlockEnded (by exact h) c b) a b

@[simp] theorem balanced_endDeny (b : Bool) : (books (endDeny c a b s)).Balanced := balanced_endTurn (by exact h) a b

@[simp] theorem balanced_endLock (b : Bool) : (books (endLock c a b s)).Balanced :=
  balanced_endTurn (by simpa using h) a b

@[simp] theorem balanced_endRelease (b : Bool) : (books (endRelease c a b s)).Balanced :=
  balanced_endTurn (by simpa using h) a b

@[simp] theorem balanced_endMeasure (b : Bool) : (books (endMeasure st a b s)).Balanced :=
  balanced_endTurn (by simpa using h) a b

@[simp] theorem balanced_endReadAnswered (r : Option AttnRecord) : (books (endReadAnswered a r s)).Balanced :=
  balanced_endTurn (balanced_readAnswered h a r) a true

@[simp] theorem balanced_endReadFailed : (books (endReadFailed a s)).Balanced := balanced_endTurn h a false

@[simp] theorem balanced_endAssign (b : Bool) : (books (endAssign a b s)).Balanced := by
  unfold endAssign
  rw [books_settle, books_freeLine]
  exact balanced_ite (by simpa using h) (by simpa using h)

@[simp] theorem balanced_endStatusAnswered (x : StatusAnswer) : (books (endStatusAnswered a x s)).Balanced :=
  balanced_endTurn (by simpa using h) a true

@[simp] theorem balanced_endStatusFailed : (books (endStatusFailed a s)).Balanced :=
  balanced_endTurn (by simpa using h) a false

@[simp] theorem balanced_endBindingAnswered (x : StatusAnswer) : (books (endBindingAnswered a x s)).Balanced := by
  unfold endBindingAnswered
  split
  · exact balanced_endTurn (by simpa using h) a true
  · exact balanced_endTurn h a true

@[simp] theorem balanced_endBindingFailed : (books (endBindingFailed a s)).Balanced := by
  unfold endBindingFailed
  split
  · exact balanced_endTurn (by simpa using h) a false
  · exact balanced_endTurn h a false

@[simp] theorem balanced_failTransaction : (books (failTransaction s)).Balanced := by
  unfold failTransaction; repeat' split
  all_goals simp [h]

@[simp] theorem balanced_takeExpiry : (books (takeExpiry s)).Balanced := by
  unfold takeExpiry; repeat' split
  all_goals simp [h]

@[simp] theorem balanced_takeCommandEnd (p : Command → Bool) {f : ChamberNo → AddrNo → Bool → State → State}
    (hf : ∀ c a b, (books (f c a b s)).Balanced) (e : TxnEnd) : (books (takeCommandEnd p f e s)).Balanced := by
  unfold takeCommandEnd; repeat' split
  all_goals simp [h, hf]

@[simp] theorem balanced_takeMeasureEnd (e : TxnEnd) : (books (takeMeasureEnd e s)).Balanced := by
  unfold takeMeasureEnd; repeat' split
  all_goals simp [h]

@[simp] theorem balanced_takeReadEnd (e : TxnEnd) : (books (takeReadEnd e s)).Balanced := by
  unfold takeReadEnd; repeat' split
  all_goals simp [h]

@[simp] theorem balanced_takeAssignEnd (e : TxnEnd) : (books (takeAssignEnd e s)).Balanced := by
  unfold takeAssignEnd; repeat' split
  all_goals simp [h]

@[simp] theorem balanced_takeStatusEnd (e : StatusEnd) : (books (takeStatusEnd e s)).Balanced := by
  unfold takeStatusEnd; repeat' split
  all_goals simp [h]

@[simp] theorem balanced_takeBindingEnd (e : StatusEnd) : (books (takeBindingEnd e s)).Balanced := by
  unfold takeBindingEnd; repeat' split
  all_goals simp [h]

@[simp] theorem balanced_endCast (k : TurnKind) {f : State → State} (hf : (books (f s)).Balanced) :
    (books (endCast k f s)).Balanced := by
  unfold endCast
  exact balanced_ite (by simpa using hf) h

/-! ## Deadlines and line power -/

theorem balanced_guardReached : (books (guardReached c s)).Balanced := by
  unfold guardReached
  split
  · exact h
  · refine balanced_ite h ?_
    rw [books_settle]
    exact balanced_closeSession (by exact h) ..

theorem balanced_visitReached : (books (visitReached st s)).Balanced := by
  unfold visitReached; repeat' split
  all_goals simpa using h

theorem balanced_returnReached : (books (returnReached c s)).Balanced := by
  unfold returnReached; split <;> simpa using h

theorem balanced_timeoutReached : (books (timeoutReached st s)).Balanced := by
  unfold timeoutReached; repeat' split
  all_goals simpa using h

theorem balanced_periodReached : (books (periodReached s)).Balanced := by
  unfold periodReached; repeat' split
  all_goals simpa using h

theorem balanced_quietReached : (books (quietReached s)).Balanced := by
  unfold quietReached; dsimp only; repeat' split
  all_goals simpa using h

theorem balanced_dormantLimitReached : (books (dormantLimitReached s)).Balanced := by
  unfold dormantLimitReached; split <;> simpa using h

theorem balanced_pulseRead (n : Nat) : (books (pulseRead n s)).Balanced := by
  unfold pulseRead; split <;> simpa using h

theorem balanced_settleReached : (books (settleReached s)).Balanced := by
  unfold settleReached lineSettled requestResetCensus; dsimp only; repeat' split
  all_goals simpa using h
end

end Sys2Proof.Machine
end

section
/-! PROOFS. Every step keeps the card table in order and the held counts at the sessions charged (R56, R59). -/

namespace Sys2Proof.Machine

/-! ## The card table (R56) -/

/-- A card record put in its place is found under its number, and no other record is found otherwise than before. -/
theorem find_insertCard (k : Card) (l : List Card) (n : CardNo) :
    (insertCard k l).find? (·.number = n) = if n = k.number then some k else l.find? (·.number = n) := by
  induction l with
  | nil => by_cases h : n = k.number <;> simp [insertCard, h, eq_comm]
  | cons x l ih =>
    unfold insertCard
    by_cases hlt : k.number < x.number
    · rw [if_pos hlt, List.find?_cons]
      by_cases h : n = k.number <;> simp [h, eq_comm]
    · rw [if_neg hlt]
      by_cases heq : k.number = x.number
      · rw [if_pos heq, List.find?_cons, List.find?_cons]
        by_cases h : n = k.number <;> simp [h, ← heq, eq_comm]
      · rw [if_neg heq, List.find?_cons, ih, List.find?_cons]
        by_cases h : x.number = n
        · subst h; simp [Ne.symm heq]
        · simp [h]

theorem mem_insertCard {k x : Card} {l : List Card} (h : x ∈ insertCard k l) : x = k ∨ x ∈ l := by
  induction l with
  | nil => simpa [insertCard] using h
  | cons y l ih =>
    unfold insertCard at h
    split at h
    · simpa using h
    · split at h
      · rcases List.mem_cons.1 h with h | h <;> simp [h]
      · rcases List.mem_cons.1 h with h | h
        · simp [h]
        · rcases ih h with h | h <;> simp [h]

/-- The table in order by card number (R56). -/
def CardsAscend (l : List Card) : Prop := l.Pairwise fun a b => a.number < b.number

theorem insertCard_ascends (k : Card) {l : List Card} (hl : CardsAscend l) : CardsAscend (insertCard k l) := by
  induction l with
  | nil => exact List.pairwise_singleton ..
  | cons x l ih =>
    obtain ⟨hx, hl⟩ := List.pairwise_cons.1 hl
    unfold insertCard
    split
    · next hlt =>
      refine List.pairwise_cons.2 ⟨fun y hy => ?_, List.pairwise_cons.2 ⟨hx, hl⟩⟩
      rcases List.mem_cons.1 hy with rfl | hy
      · exact hlt
      · exact BitVec.lt_trans hlt (hx y hy)
    · next hle =>
      split
      · next heq => exact List.pairwise_cons.2 ⟨fun y hy => heq ▸ hx y hy, hl⟩
      · next hne =>
        refine List.pairwise_cons.2 ⟨fun y hy => ?_, ih hl⟩
        rcases mem_insertCard hy with rfl | hy
        · exact BitVec.lt_of_le_ne (BitVec.not_lt.1 hle) (Ne.symm hne)
        · exact hx y hy

theorem length_insertCard_le (k : Card) (l : List Card) : (insertCard k l).length ≤ l.length + 1 := by
  induction l with
  | nil => simp [insertCard]
  | cons x l ih => unfold insertCard; repeat' split
                   all_goals simp_all

/-- A record of a card that the table holds takes no more room. -/
theorem length_insertCard_of_mem (k : Card) {l : List Card} (hl : CardsAscend l) (hk : ∃ x ∈ l, x.number = k.number) :
    (insertCard k l).length = l.length := by
  induction l with
  | nil => simp at hk
  | cons x l ih =>
    obtain ⟨hx, hl⟩ := List.pairwise_cons.1 hl
    obtain ⟨y, hy, hyk⟩ := hk
    unfold insertCard
    rcases List.mem_cons.1 hy with rfl | hy
    · rw [hyk, if_neg (BitVec.lt_irrefl _), if_pos rfl]; rfl
    · have hlt : x.number < k.number := hyk ▸ hx y hy
      rw [if_neg (BitVec.not_lt.2 (BitVec.le_of_lt hlt)), if_neg (BitVec.ne_of_lt hlt).symm]
      exact congrArg (· + 1) (ih hl ⟨y, hy, hyk⟩)

section
variable {s : State} (h : (books s).Balanced)
include h

/-- A record is written of a card that stands in the table, or of a new one where there is room (R64, R65). -/
theorem balanced_insertCard {k : Card} (hk : k.number ≠ 0)
    (hroom : (s.findCard k.number).isSome = true ∨ s.ret.cards.length < 8192) :
    (books (s.onRet fun r => { r with cards := insertCard k r.cards })).Balanced := by
  have hasc : CardsAscend s.ret.cards := List.pairwise_map.1 h.ascending
  refine { h with ascending := List.pairwise_map.2 (insertCard_ascends k hasc), nonzero := fun n hn => ?_, room := ?_ }
  · obtain ⟨x, hx, rfl⟩ := List.mem_map.1 hn
    rcases mem_insertCard hx with rfl | hx
    · exact hk
    · exact h.nonzero _ (List.mem_map_of_mem hx)
  · have hold : s.ret.cards.length ≤ 8192 := by simpa [books] using h.room
    show ((insertCard k s.ret.cards).map (·.number)).length ≤ 8192
    rw [List.length_map]
    rcases hroom with hf | hlt
    · rw [length_insertCard_of_mem k hasc (by simpa [State.findCard] using hf)]
      exact hold
    · exact (length_insertCard_le k _).trans hlt

theorem balanced_takeCardPut (f : CardFields) : (books (takeCardPut f s).1).Balanced := by
  unfold takeCardPut
  split
  · split
    · exact h
    · next hcard =>
      dsimp only; split
      · exact h
      · next hroom =>
        refine balanced_insertCard h hcard ?_
        cases hf : s.findCard f.card <;> simp_all [Config.cardRoom]
  · exact h

theorem balanced_takeCardAmend (mask : Byte) (f : CardFields) : (books (takeCardAmend mask f s).1).Balanced := by
  unfold takeCardAmend
  dsimp only; split
  · exact h
  · next hok =>
    split
    · exact h
    · next old hold =>
      split
      · have hnum : old.number = f.card := by simpa using List.find?_some hold
        refine balanced_insertCard h ?_ (.inl ?_)
        · show old.number ≠ 0
          rw [hnum]; exact fun h0 => hok (.inl h0)
        · show (s.findCard old.number).isSome = true
          rw [hnum, hold]; rfl
      · exact h

theorem balanced_takeCardRemove (n : CardNo) : (books (takeCardRemove n s).1).Balanced := by
  have hsub : ((s.ret.cards.filter (·.number ≠ n)).map (·.number)).Sublist (s.ret.cards.map (·.number)) :=
    List.filter_sublist.map _
  unfold takeCardRemove
  repeat' split
  · exact h
  · exact h
  · exact { h with
      ascending := h.ascending.sublist hsub
      nonzero := fun m hm => h.nonzero m (hsub.subset hm)
      room := hsub.length_le.trans h.room }
end

/-! ## Requests -/

/-- An account write that keeps held leaves the books. -/
theorem books_onAccount_held (s : State) (a : AccountNo) {f : Account → Account} (hf : ∀ k, (f k).held = k.held) :
    books (s.onAccount a f) = books s := by
  rw [books_onAccount]
  refine congrArg (fun q => { books s with held := q }) (funext fun d => ?_)
  split
  · next hd => subst hd; exact hf _
  · rfl

theorem books_takeAccountPut (i : BitVec 16) (f : AccountFields) (s : State) :
    books (takeAccountPut i f s).1 = books s := by
  unfold takeAccountPut
  split
  · exact books_onAccount_held s _ fun _ => rfl
  · rfl

theorem books_takeAccountAmend (i : BitVec 16) (mask : Byte) (f : AccountFields) (s : State) :
    books (takeAccountAmend i mask f s).1 = books s := by
  unfold takeAccountAmend
  split
  · rfl
  split
  · rfl
  · exact books_onAccount_held s _ fun _ => rfl

theorem books_takeGroupWrite (f : GroupFields) (s : State) : books (takeGroupWrite f s).1 = books s := by
  unfold takeGroupWrite
  split
  · rfl
  · refine congrArg (fun q => { books s with held := q }) (funext fun a => ?_)
    show Account.held (look (mapAll _ _) a) = _
    rw [look_mapAll]
    split <;> rfl

section
variable {s : State} (h : (books s).Balanced) (c : ChamberNo) (st : StationNo) (a : AddrNo)
include h

theorem balanced_unbindOnline : (books (unbindOnline st a s)).Balanced := by
  unfold unbindOnline
  rw [books_postNode]
  exact balanced_stationOut (by exact h) st

theorem balanced_rebind (n : Option Serial) : (books (rebind st n s)).Balanced := by
  unfold rebind; dsimp only
  rw [books_arbitrate]
  split
  all_goals
    simp only [books_bindAddressed, books_onStation, books_dropBindingOf]
    split
    · exact balanced_unbindOnline h st _
    · exact h

theorem balanced_resetLine : (books (resetLine s)).Balanced := by
  have hr : (books (resetSessions (resetChambers (resetTurns s)))).Balanced :=
    balanced_eachOf (fun c s h => balanced_closeSession h c _ _) _ (by simpa using h)
  simpa [resetLine] using hr

/-- Whatever a request does, the books stay balanced. -/
theorem balanced_act (r : Request) : (books (act r s).1).Balanced := by
  cases r <;> simp only [act]
  case siteStatus => exact h
  case siteSet f => unfold takeSiteSet; split <;> simpa using h
  case partRestart => exact h
  case cardPut f => exact balanced_takeCardPut h f
  case cardAmend m f => exact balanced_takeCardAmend h m f
  case cardGet n => unfold takeCardGet; repeat' split
                    all_goals exact h
  case cardRemove n => exact balanced_takeCardRemove h n
  case cardScan => exact h
  case accountPut i f => rwa [books_takeAccountPut]
  case accountAmend i m f => rwa [books_takeAccountAmend]
  case accountGet i => unfold takeAccountGet; split <;> exact h
  case groupWrite f => rwa [books_takeGroupWrite]
  case classPut i f => unfold takeClassPut; split <;> exact h
  case classGet i => unfold takeClassGet; split <;> exact h
  case chamberSet b f => unfold takeChamberSet; dsimp only; repeat' split
                         all_goals simpa using h
  case chamberGet b => unfold takeChamberGet; split <;> exact h
  case chamberClear b => unfold takeChamberClear; repeat' split
                         all_goals simpa using h
  case profilePut p f => unfold takeProfilePut; repeat' split
                         all_goals exact h
  case profileGet p => unfold takeProfileGet; split <;> exact h
  case stationBind b n => unfold takeStationBind; repeat' split
                          all_goals simp [h, balanced_rebind]
  case stationGet b => unfold takeStationGet; split <;> exact h
  case roundRead => exact h
  case roundAdd b u => unfold takeRoundAdd; repeat' split
                       all_goals simpa using h
  case roundDrop b => unfold takeRoundDrop; repeat' split
                      all_goals simpa using h
  case journalRead => exact h
  case journalRelease n x => unfold takeJournalRelease; dsimp only; split <;> simpa using h
  case lineCensus => unfold takeLineCensus; dsimp only; repeat' split
                     all_goals simpa using h
  case lineSweep => unfold takeLineSweep; dsimp only; split <;> simpa using h
  case lineDormant => unfold takeLineDormant; dsimp only; repeat' split
                      all_goals simpa using h
  case lineWake => unfold takeLineWake; dsimp only; split <;> simpa using h
  case lineReset => simpa [takeLineReset] using balanced_resetLine h

/-! ## The host link -/

theorem balanced_takeHead : (books (takeHead s)).Balanced := by
  unfold takeHead
  split
  · exact balanced_act h _
  · exact h

theorem balanced_busyReply (kind tag : Byte) (r : Result) : (books (busyReply kind tag r s)).Balanced := by
  unfold busyReply; exact balanced_ite (by exact h) h

theorem balanced_enqueue (tag : Byte) (r : Request) : (books (enqueue tag r s)).Balanced := by
  unfold enqueue
  exact balanced_ite (balanced_ite (balanced_takeHead (by exact h)) (by exact h)) (balanced_busyReply h ..)

theorem balanced_takeFrame (kind tag : Byte) (p : List Byte) : (books (takeFrame kind tag p s)).Balanced := by
  unfold takeFrame
  split
  · exact balanced_busyReply h ..
  · exact balanced_busyReply h ..
  · exact balanced_enqueue h ..

theorem balanced_receive (b : Byte) : (books (receive b s)).Balanced := by
  unfold receive; dsimp only
  split
  · rw [books_kickTx]; exact balanced_takeFrame (by exact h) ..
  · exact h

theorem balanced_receiveAll (bytes : List Byte) : (books (receiveAll bytes s)).Balanced :=
  balanced_eachOf (fun b _ h => balanced_receive h b) bytes h

theorem balanced_arrive (tag : Byte) (r : Request) : (books (arrive tag r s)).Balanced := by
  unfold arrive
  exact balanced_ite h (by simpa using balanced_enqueue h tag r)

theorem balanced_replySent : (books (replySent s)).Balanced := by
  unfold replySent
  split
  · exact h
  · exact balanced_ite (by exact h) (balanced_takeHead (by exact h))

theorem balanced_txEnded : (books (txEnded s)).Balanced := by
  unfold txEnded
  split
  · exact h
  · dsimp only; split
    · rw [books_kickTx]; exact balanced_replySent (by exact h)
    all_goals simpa using h

end

/-! ## Supplies and starts -/

theorem books_mainLost (s : State) : books (mainLost s) = books s := by
  refine books_of_sessions rfl rfl fun c a => ?_
  show Option.any _ (look (mapAll _ _) c) = _
  rw [look_mapAll, Option.any_map]; rfl

theorem chargedTo_cold (s : State) (a : AccountNo) (h : s.ret = Retained.cold) : chargedTo a s = 0 := by
  rw [chargedTo, countWhere_eq_indexes, h, List.countP_eq_zero]
  simp [Retained.cold]

/-- The cold retained domain holds no card, no session and no held deposit (R75, R185). -/
theorem balanced_cold {s : State} (h : s.ret = Retained.cold) : (books s).Balanced where
  ascending := by simp [books, h, Retained.cold]
  nonzero := by simp [books, h, Retained.cold]
  room := by simp [books, h, Retained.cold]
  held a := by
    show (look s.ret.accounts a).held = chargedTo a s
    rw [chargedTo_cold s a h, h]
    simp [Retained.cold, coldAccount]

/-- A start whose stages each keep the books balanced keeps them so, also where it is cut. -/
theorem balanced_runStages {stages : List (State → State)}
    (hf : ∀ f ∈ stages, ∀ s, (books s).Balanced → (books (f s)).Balanced) (cut : Option Nat) {s : State}
    (h : (books s).Balanced) : (books (runStages cut stages s)).Balanced := by
  have hfold : ∀ (l : List (State → State)), (∀ f ∈ l, f ∈ stages) → ∀ s, (books s).Balanced →
      (books (l.foldl (fun s f => f s) s)).Balanced := by
    intro l hl
    induction l with
    | nil => exact fun _ h => h
    | cons f l ih =>
      exact fun s h => ih (fun g hg => hl g (List.mem_cons_of_mem _ hg)) _ (hf f (hl f List.mem_cons_self) s h)
  unfold runStages
  split
  · exact hfold _ (fun _ h => h) _ h
  · split
    · rw [books_mainLost]; exact hfold _ (fun _ => List.mem_of_mem_take) _ h
    · exact hfold _ (fun _ h => h) _ h

theorem balanced_serve {s : State} (h : (books s).Balanced) : (books (serve s)).Balanced := by
  unfold serve; exact balanced_ite (by simpa using h) h

theorem balanced_warmStages (kind : StartKind) :
    ∀ f ∈ warmStages kind, ∀ s, (books s).Balanced → (books (f s)).Balanced := by
  have hclose : ∀ c s, (books s).Balanced → (books (warmClose c s)).Balanced := fun c s h =>
    show (books (closeSession c (some .unconfirmed) false s)).Balanced from balanced_closeSession h ..
  have hjournal : ∀ s, books (warmJournal s) = books s := fun s => by unfold warmJournal; split <;> simp
  have hreconcile : ∀ c s, books (warmReconcile c s) = books s := fun c s => by
    unfold warmReconcile; dsimp only; repeat' split
    all_goals simp
  have hwaiting : ∀ s, books (allWaiting s) = books s := fun s => by simp [allWaiting]
  have hround : ∀ s, books (warmRound s) = books s := fun s => by simp [warmRound, hwaiting]
  have hvisits : ∀ s, books (warmVisits s) = books s := fun s => by simp [warmVisits, hwaiting]
  have hline : ∀ s, books (warmLine s) = books s := fun s => by simp [warmLine]
  intro f hf s h
  simp only [warmStages, List.mem_append, List.mem_cons, List.mem_map, List.not_mem_nil, or_false] at hf
  rcases hf with (((((rfl | ⟨c, -, rfl⟩) | rfl) | ⟨c, -, rfl⟩) | rfl) | ⟨c, -, rfl⟩) | rfl | rfl | rfl
  · exact h
  · exact hclose c s h
  · rwa [hjournal]
  · rwa [hreconcile]
  · rwa [hround]
  · rwa [books_evaluate]
  · rwa [hvisits]
  · rwa [hline]
  · exact h

theorem balanced_warmStart {s : State} (h : (books s).Balanced) (kind : StartKind) (cut : Option Nat) :
    (books (warmStart kind cut s)).Balanced :=
  balanced_serve (balanced_runStages (balanced_warmStages kind) cut h)

/-- A cold start that is cut leaves the retained domain unknown; one that ends leaves it cold (R185). -/
theorem balanced_coldStart (cut : Option Nat) (s : State) (hk : Known (coldStart cut s)) :
    (books (coldStart cut s)).Balanced := by
  have hfull : (books (coldMarker (coldDefaults { s with marker := false }))).Balanced := by
    unfold coldMarker
    rw [books_post, books_requestCensus]
    exact balanced_cold rfl
  have hcut : ∀ t : State, t.marker = false → ¬ Known (serve (mainLost t)) := fun t ht hk => by
    rcases hk with hk | hk
    · cases hk
    · rw [show (serve (mainLost t)).marker = t.marker from rfl, ht] at hk; cases hk
  unfold coldStart at hk ⊢
  match cut with
  | none => exact balanced_serve hfull
  | some 0 => exact absurd hk (hcut _ rfl)
  | some 1 => exact absurd hk (hcut _ rfl)
  | some (n + 2) =>
    have hn : runStages (some (n + 2)) coldStages { s with marker := false } =
        coldMarker (coldDefaults { s with marker := false }) := by simp [runStages, coldStages]
    rw [hn]; exact balanced_serve hfull

/-! ## Every step keeps the books balanced -/

/-- The books are balanced wherever the retained domain counts as known. -/
def BooksLaw (s : State) : Prop := Known s → (books s).Balanced

/-- A command that needs main power keeps the law where its effect keeps balanced books so. -/
theorem booksLaw_whilePowered {s t : State} {f : State → State} (h : BooksLaw s)
    (hf : ∀ s, (books s).Balanced → (books (f s)).Balanced) (ht : whilePowered f s = .next t) : BooksLaw t := by
  cases ht
  cases hv : s.vdd with
  | false => rw [if_neg (by decide)]; exact h
  | true => rw [if_pos rfl]; exact fun _ => hf s (h (.inl hv))

theorem booksLaw_arrive {s : State} (h : BooksLaw s) (tag : Byte) (r : Request) : BooksLaw (arrive tag r s) := by
  cases hv : s.vdd with
  | false => rw [arrive, if_pos (.inl hv)]; exact h
  | true => exact fun _ => balanced_arrive (h (.inl hv)) tag r

theorem booksLaw_pass {s : State} (h : BooksLaw s) (n : Nat) : BooksLaw (pass n s) := h

theorem booksLaw_execMainPowerUp {s t : State} (h : BooksLaw s) {good : Bool} {cut : Option Nat}
    (ht : execMainPowerUp good cut s = .next t) : BooksLaw t := by
  cases ht
  split
  · exact h
  · split
    · next hm => exact fun _ => balanced_warmStart (s := mainRestored s) (h (.inr (Bool.and_eq_true_iff.1 hm).1)) _ cut
    · exact balanced_coldStart cut _

theorem booksLaw_execWarmStart {s t : State} (h : BooksLaw s) {cut : Option Nat}
    (ht : execWarmStart cut s = .next t) : BooksLaw t := by
  cases ht
  split
  · next hv =>
    split
    · exact fun _ => balanced_warmStart (h (.inl hv)) _ cut
    · exact h
  · split
    · next hm => exact fun _ => balanced_warmStart (s := mainRestored s) (h (.inr hm)) _ cut
    · exact h

theorem booksLaw_execMainPowerLoss {s t : State} (h : BooksLaw s) (ht : execMainPowerLoss s = .next t) :
    BooksLaw t := by
  cases ht
  split
  · next hv => exact fun _ => books_mainLost s ▸ h (.inl hv)
  · exact h

theorem booksLaw_execPartClockWrap {s t : State} (h : BooksLaw s) (ht : execPartClockWrap s = .next t) :
    BooksLaw t := by
  cases ht
  split
  · exact booksLaw_pass h 1
  · exact h

theorem booksLaw_execBackupSupplyLoss {s t : State} (h : BooksLaw s) (ht : execBackupSupplyLoss s = .next t) :
    BooksLaw t := by
  cases ht
  split
  · exact h
  · next hv => exact fun hk => absurd hk (not_or.2 ⟨hv, Bool.false_ne_true⟩)

theorem booksLaw_idle {s : State} (h : BooksLaw s) : BooksLaw (idle s) := by
  unfold idle
  split
  · next hv => exact fun _ => by rw [books_settle]; exact h (.inl hv)
  · split
    · exact booksLaw_pass h 1
    · exact h

theorem booksLaw_exec {i : Instr} {s t : State} (h : BooksLaw s) (ht : exec i s = .next t) : BooksLaw t := by
  cases i
  case mainPowerUp => exact booksLaw_execMainPowerUp h ht
  case warmStart => exact booksLaw_execWarmStart h ht
  case mainPowerLoss => exact booksLaw_execMainPowerLoss h ht
  case partClockWrap => exact booksLaw_execPartClockWrap h ht
  case backupSupplyLoss => exact booksLaw_execBackupSupplyLoss h ht
  case lineFrameDiscard => cases ht; exact h
  case hostFrameReceived bytes => exact booksLaw_whilePowered h (fun _ h => balanced_receiveAll h bytes) ht
  case hostInterbyteTimeout => exact booksLaw_whilePowered (f := fun s => s.onHost _) h (fun _ h => h) ht
  case transmitEnd => exact booksLaw_whilePowered h (fun _ h => balanced_txEnded h) ht
  case responseWindowExpiry => exact booksLaw_whilePowered h (fun _ h => balanced_takeExpiry h) ht
  case unlockEnd e =>
    exact booksLaw_whilePowered h (fun _ h => balanced_takeCommandEnd h _ (balanced_endUnlock h) e) ht
  case denyEnd e => exact booksLaw_whilePowered h (fun _ h => balanced_takeCommandEnd h _ (balanced_endDeny h) e) ht
  case lockEnd e => exact booksLaw_whilePowered h (fun _ h => balanced_takeCommandEnd h _ (balanced_endLock h) e) ht
  case releaseEnd e =>
    exact booksLaw_whilePowered h (fun _ h => balanced_takeCommandEnd h _ (balanced_endRelease h) e) ht
  case measureEnd e => exact booksLaw_whilePowered h (fun _ h => balanced_takeMeasureEnd h e) ht
  case attnReadEnd e => exact booksLaw_whilePowered h (fun _ h => balanced_takeReadEnd h e) ht
  case assignEnd e => exact booksLaw_whilePowered h (fun _ h => balanced_takeAssignEnd h e) ht
  case statusEnd e => exact booksLaw_whilePowered h (fun _ h => balanced_takeStatusEnd h e) ht
  case bindingStatusEnd e => exact booksLaw_whilePowered h (fun _ h => balanced_takeBindingEnd h e) ht
  case attnQueryWindow b w =>
    exact booksLaw_whilePowered h (fun _ h => balanced_endCast h _ (by simpa using h)) ht
  case contendWindow b x =>
    exact booksLaw_whilePowered h (fun _ h => balanced_endCast h _ (balanced_takeContend h b x)) ht
  case censusOpenSent => exact booksLaw_whilePowered h (fun _ h => balanced_endCast h _ h) ht
  case dormantSent =>
    refine booksLaw_whilePowered h (fun _ h => balanced_endCast h _ ?_) ht
    unfold dormantReached
    exact balanced_ite (by simpa using h) h
  case dropAddressSent => exact booksLaw_whilePowered h (fun _ h => balanced_endCast h _ h) ht
  case guardDeadline c => exact booksLaw_whilePowered h (fun _ h => balanced_guardReached h c) ht
  case visitDeadline st => exact booksLaw_whilePowered h (fun _ h => balanced_visitReached h st) ht
  case returnDeadline c => exact booksLaw_whilePowered h (fun _ h => balanced_returnReached h c) ht
  case measurementTimeout st => exact booksLaw_whilePowered h (fun _ h => balanced_timeoutReached h st) ht
  case censusPeriodDeadline => exact booksLaw_whilePowered h (fun _ h => balanced_periodReached h) ht
  case quietDeadline => exact booksLaw_whilePowered h (fun _ h => balanced_quietReached h) ht
  case dormantDeadline => exact booksLaw_whilePowered h (fun _ h => balanced_dormantLimitReached h) ht
  case wakePulse n => exact booksLaw_whilePowered h (fun _ h => balanced_pulseRead h n) ht
  case settleEnd => exact booksLaw_whilePowered h (fun _ h => balanced_settleReached h) ht
  all_goals
    rw [exec_of_request rfl] at ht
    cases ht
    exact booksLaw_arrive h _ _

/-- Settles O56: the two laws say that the books are balanced, and each command keeps them so. -/
theorem stepKeepsCardAndHeldLaws : Obligations.StepKeepsCardAndHeldLaws := by
  intro s t hc hh ht
  have h : BooksLaw s := cardLaw_and_heldLaw_iff.1 ⟨hc, hh⟩
  refine cardLaw_and_heldLaw_iff.2 ?_
  unfold step at ht
  split at ht
  · next i rest _ => exact booksLaw_exec (i := i) (s := { s with pending := rest }) h ht
  · cases ht; exact booksLaw_idle h

end Sys2Proof.Machine
end

section
/-! PROOFS. The requests on cards, accounts and class templates (R61, R62, R64 to R74). -/

namespace Sys2Proof.Machine

/-! ## References and codes (R177) -/

theorem accountOf_eq_none {b : BitVec 16} : accountOf b = none ↔ 2048 ≤ b.toNat := by
  simp [accountOf]

theorem accountOf_eq_some {b : BitVec 16} {a : AccountNo} : accountOf b = some a ↔ a.val = b.toNat := by
  unfold accountOf
  split
  · simp [Fin.ext_iff, eq_comm]
  · next h => simp only [reduceCtorEq, false_iff]; exact fun he => h (he ▸ a.isLt)

theorem eightOf_eq_none {b : Byte} : eightOf b = none ↔ 8 ≤ b.toNat := by
  simp [eightOf]

theorem eightOf_eq_some {b : Byte} {i : Fin 8} : eightOf b = some i ↔ i.val = b.toNat := by
  unfold eightOf
  split
  · simp [Fin.ext_iff, eq_comm]
  · next h => simp only [reduceCtorEq, false_iff]; exact fun he => h (he ▸ i.isLt)

theorem fractionSetOf_eq_none {b : Byte} : fractionSetOf b = none ↔ 32 ≤ b.toNat := by
  simp [fractionSetOf]

theorem fractionSetOf_eq_some {b : Byte} {x : FractionSet} :
    fractionSetOf b = some x ↔ b.toNat < 32 ∧ x = b.setWidth 5 := by
  simp [fractionSetOf, eq_comm]

theorem cardStateOf_eq_some {b : Byte} {x : CardState} : cardStateOf b = some x ↔ x.code = b.toNat := by
  unfold cardStateOf
  constructor
  · intro h
    split at h <;> cases h <;> simp_all [CardState.code]
  · intro h
    rw [← h]; cases x <;> rfl

theorem cardStateOf_eq_none {b : Byte} : cardStateOf b = none ↔ 3 ≤ b.toNat := by
  unfold cardStateOf
  split <;> simp_all
  omega

theorem accountStateOf_eq_some {b : Byte} {x : AccountState} : accountStateOf b = some x ↔ x.code = b.toNat := by
  unfold accountStateOf
  constructor
  · intro h
    split at h <;> cases h <;> simp_all [AccountState.code]
  · intro h
    rw [← h]; cases x <;> rfl

theorem accountStateOf_eq_none {b : Byte} : accountStateOf b = none ↔ 3 ≤ b.toNat := by
  unfold accountStateOf
  split <;> simp_all
  omega

theorem visitModeOf_eq_some {b : Byte} {x : VisitMode} : visitModeOf b = some x ↔ x.code = b.toNat := by
  unfold visitModeOf
  constructor
  · intro h
    split at h <;> cases h <;> simp_all [VisitMode.code]
  · intro h
    rw [← h]; cases x <;> rfl

theorem visitModeOf_eq_none {b : Byte} : visitModeOf b = none ↔ 2 ≤ b.toNat := by
  unfold visitModeOf
  split <;> simp_all
  omega

/-- A masked reference can be stored where the new value can be, wherever the mask bit asks for it; it is the new value
there, and the old one where the bit is clear. -/
theorem masked_eq_some {α : Type} {bit : Bool} {old : α} {new : Option α} {p : α → Prop}
    (h : bit = true → ∃ x, new = some x ∧ p x) :
    ∃ x, masked bit old new = some x ∧ if bit = true then p x else x = old := by
  cases bit with
  | false => exact ⟨old, rfl, rfl⟩
  | true => simpa [masked] using h rfl

theorem okIf_eq {b : Bool} {p : Prop} (h : b = true ↔ p) : (p → okIf b = .okClamped) ∧ (¬ p → okIf b = .ok) := by
  cases b <;> simp_all [okIf]

/-- Bits that agree under a mask (R62, R72). -/
theorem xor_and_eq_zero_iff {w : Nat} (x y m : BitVec w) :
    (x ^^^ y) &&& m = 0 ↔ ∀ b < w, m.getLsbD b = true → x.getLsbD b = y.getLsbD b := by
  constructor
  · intro h b _ hm
    have hb := congrArg (·.getLsbD b) h
    simpa [hm] using hb
  · intro h
    refine BitVec.eq_of_getLsbD_eq fun b hb => ?_
    cases hm : m.getLsbD b with
    | false => simp [hm]
    | true => simp [h b hb hm]

/-- A request that changes nothing of a ready part is answered, and no more. -/
theorem exec_of_ready_unchanged {i : Instr} {tag : Byte} {r : Request} {s : State} {rep : Reply}
    (hi : i.request = some (tag, r)) (htag : tag ≠ 0) (hs : Ready s)
    (hact : act r (queued tag r s) = (queued tag r s, rep)) : exec i s = .next (replied tag r rep s) :=
  (exec_of_ready hi htag hs hact).trans (congrArg Host.Outcome.next (replied_queued ..))

/-- A request that writes to the retained domain of a ready part alone is answered on the state so written. -/
theorem exec_of_ready_written {i : Instr} {tag : Byte} {r : Request} {s : State} {rep : Reply} {ret : Retained}
    (hi : i.request = some (tag, r)) (htag : tag ≠ 0) (hs : Ready s)
    (hact : act r (queued tag r s) = ({ queued tag r s with ret := ret }, rep)) :
    exec i s = .next (replied tag r rep { s with ret := ret }) :=
  (exec_of_ready hi htag hs hact).trans rfl

/-! ## Requests on cards (R64 to R68) -/

/-- A CARD PUT whose card number is 0, or one of whose references is none (R64). -/
def putRefused (f : CardFields) : Prop :=
  f.card = 0 ∨ 2048 ≤ f.account.toNat ∨ 32 ≤ f.rights.toNat ∨ 3 ≤ f.state.toNat

theorem takeCardPut_refused {f : CardFields} (h : putRefused f) (s : State) : takeCardPut f s = (s, bare .badValue) := by
  unfold takeCardPut
  split
  · next ha hr hst =>
    have hcard : f.card = 0 := by
      rcases h with h | h | h | h
      · exact h
      · simp [accountOf_eq_none.2 h] at ha
      · simp [fractionSetOf_eq_none.2 h] at hr
      · simp [cardStateOf_eq_none.2 h] at hst
    rw [if_pos hcard]
  · rfl

/-- The record that a CARD PUT writes, where it is not refused: its own fields, and the last use of the record that was
present. -/
theorem takeCardPut_taken {f : CardFields} (h : ¬ putRefused f) (s : State) :
    ∃ k : Card, k.number = f.card ∧ k.account.val = f.account.toNat ∧ k.rights = f.rights.setWidth 5 ∧
      k.state.code = f.state.toNat ∧ k.scope = f.scope ∧ k.lastUse = (s.findCard f.card).bind (·.lastUse) ∧
      takeCardPut f s = if (s.findCard f.card).isNone ∧ s.ret.cards.length ≥ Config.cardRoom then (s, bare .tableFull)
        else (s.onRet fun r => { r with cards := insertCard k r.cards }, bare .ok) := by
  simp only [putRefused, not_or, Nat.not_le] at h
  obtain ⟨hcard, ha, hr, hst⟩ := h
  obtain ⟨account, hacc⟩ := Option.ne_none_iff_exists'.1 (mt accountOf_eq_none.1 (Nat.not_le.2 ha))
  obtain ⟨state, hstate⟩ := Option.ne_none_iff_exists'.1 (mt cardStateOf_eq_none.1 (Nat.not_le.2 hst))
  refine ⟨{ number := f.card, account := account, rights := f.rights.setWidth 5, state := state, scope := f.scope,
            lastUse := (s.findCard f.card).bind (·.lastUse) },
    rfl, accountOf_eq_some.1 hacc, rfl, cardStateOf_eq_some.1 hstate, rfl, rfl, ?_⟩
  simp only [takeCardPut, hacc, fractionSetOf_eq_some.2 ⟨hr, rfl⟩, hstate, if_neg hcard]

/-- Settles O11: the fields are checked first, then the room; a record put in its place is the one found under its number,
and every other number finds what it found before. -/
theorem cardPutWritesOneCard : Obligations.CardPutWritesOneCard := by
  intro tag f s htag hs
  dsimp only
  refine ⟨fun hbad => ?_, fun hok hnew hfull => ?_, fun hok hroom => ?_⟩
  · exact exec_of_ready_unchanged rfl htag hs (takeCardPut_refused hbad _)
  · obtain ⟨k, -, -, -, -, -, -, hput⟩ := takeCardPut_taken hok (queued tag (.cardPut f) s)
    exact exec_of_ready_unchanged rfl htag hs (hput.trans (if_pos ⟨Option.isNone_iff_eq_none.2 hnew, hfull⟩))
  · obtain ⟨k, hnum, ha, hr, hst, hscope, huse, hput⟩ := takeCardPut_taken hok (queued tag (.cardPut f) s)
    have hfree : ¬ ((s.findCard f.card).isNone ∧ s.ret.cards.length ≥ Config.cardRoom) := fun ⟨hnone, hfull⟩ => by
      rcases hroom with hsome | hlt
      · rw [Option.isNone_iff_eq_none.1 hnone] at hsome; cases hsome
      · exact absurd hlt (Nat.not_lt.2 hfull)
    refine ⟨insertCard k s.ret.cards, k, exec_of_ready_written rfl htag hs (hput.trans (if_neg hfree)), fun n hn => ?_, ?_,
      ha, hr, hst, hscope, huse⟩
    · rw [find_insertCard, if_neg (hnum ▸ hn)]; rfl
    · rw [find_insertCard, if_pos hnum.symm]

/-- A CARD AMEND whose card number is 0, or one of whose masked references is none (R65). -/
def amendRefused (mask : Byte) (f : CardFields) : Prop :=
  f.card = 0 ∨ (mask.getLsbD 0 = true ∧ 2048 ≤ f.account.toNat) ∨ (mask.getLsbD 1 = true ∧ 32 ≤ f.rights.toNat) ∨
    (mask.getLsbD 2 = true ∧ 3 ≤ f.state.toNat)

/-- The checks of CARD AMEND, which come before the card's presence (R65). -/
theorem amendRefused_iff (mask : Byte) (f : CardFields) :
    amendRefused mask f ↔ f.card = 0 ∨
      ((!mask.getLsbD 0 || (accountOf f.account).isSome) && (!mask.getLsbD 1 || (fractionSetOf f.rights).isSome) &&
        (!mask.getLsbD 2 || (cardStateOf f.state).isSome)) = false := by
  simp only [amendRefused, ← accountOf_eq_none, ← fractionSetOf_eq_none, ← cardStateOf_eq_none]
  simp only [Bool.and_eq_false_iff, Bool.or_eq_false_iff, Bool.not_eq_false', Option.isSome_eq_false_iff,
    Option.isNone_iff_eq_none, or_assoc]

theorem takeCardAmend_refused {mask : Byte} {f : CardFields} (h : amendRefused mask f) (s : State) :
    takeCardAmend mask f s = (s, bare .badValue) :=
  if_pos ((amendRefused_iff mask f).1 h)

theorem takeCardAmend_absent {mask : Byte} {f : CardFields} (h : ¬ amendRefused mask f) {s : State}
    (hf : s.findCard f.card = none) : takeCardAmend mask f s = (s, bare .notFound) := by
  unfold takeCardAmend
  dsimp only
  rw [if_neg (mt (amendRefused_iff mask f).2 h), hf]

/-- The record that a CARD AMEND writes: its masked fields, and the others of the old record. -/
theorem takeCardAmend_taken {mask : Byte} {f : CardFields} (h : ¬ amendRefused mask f) {s : State} {old : Card}
    (hf : s.findCard f.card = some old) :
    ∃ k : Card, k.number = f.card ∧ k.lastUse = old.lastUse ∧
      (if mask.getLsbD 0 then k.account.val = f.account.toNat else k.account = old.account) ∧
      (if mask.getLsbD 1 then k.rights = f.rights.setWidth 5 else k.rights = old.rights) ∧
      (if mask.getLsbD 2 then k.state.code = f.state.toNat else k.state = old.state) ∧
      (k.scope = if mask.getLsbD 3 then f.scope else old.scope) ∧
      takeCardAmend mask f s = (s.onRet fun r => { r with cards := insertCard k r.cards }, bare .ok) := by
  have hchecks := mt (amendRefused_iff mask f).2 h
  simp only [amendRefused, not_or, not_and, Nat.not_le] at h
  obtain ⟨-, ha, hr, hst⟩ := h
  obtain ⟨account, hacc, hacc'⟩ := masked_eq_some (old := old.account) fun hm =>
    (Option.ne_none_iff_exists'.1 (mt accountOf_eq_none.1 (Nat.not_le.2 (ha hm)))).imp fun _ hx =>
      ⟨hx, accountOf_eq_some.1 hx⟩
  obtain ⟨rights, hrts, hrts'⟩ := masked_eq_some (old := old.rights) (p := (· = f.rights.setWidth 5)) fun hm =>
    ⟨_, fractionSetOf_eq_some.2 ⟨hr hm, rfl⟩, rfl⟩
  obtain ⟨state, hstate, hstate'⟩ := masked_eq_some (old := old.state) fun hm =>
    (Option.ne_none_iff_exists'.1 (mt cardStateOf_eq_none.1 (Nat.not_le.2 (hst hm)))).imp fun _ hx =>
      ⟨hx, cardStateOf_eq_some.1 hx⟩
  refine ⟨{ old with account := account, rights := rights, state := state,
                     scope := if mask.getLsbD 3 then f.scope else old.scope },
    by simpa using List.find?_some hf, rfl, hacc', hrts', hstate', rfl, ?_⟩
  unfold takeCardAmend
  dsimp only
  rw [if_neg hchecks, hf]
  simp only [hacc, hrts, hstate]

/-- Settles O12: the masked values are checked before the card's presence; the record written keeps what the mask leaves. -/
theorem cardAmendWritesMaskedFields : Obligations.CardAmendWritesMaskedFields := by
  intro tag mask f s htag hs
  dsimp only
  refine ⟨fun hbad => ?_, fun hok hnone => ?_, fun hok old hold => ?_⟩
  · exact exec_of_ready_unchanged rfl htag hs (takeCardAmend_refused hbad _)
  · exact exec_of_ready_unchanged rfl htag hs (takeCardAmend_absent hok hnone)
  · obtain ⟨k, hnum, huse, ha, hr, hst, hscope, ht⟩ :=
      takeCardAmend_taken hok (s := queued tag (.cardAmend mask f) s) hold
    refine ⟨insertCard k s.ret.cards, k, exec_of_ready_written rfl htag hs ht, fun n hn => ?_, ?_,
      huse, ha, hr, hst, hscope⟩
    · rw [find_insertCard, if_neg (hnum ▸ hn)]; rfl
    · rw [find_insertCard, if_pos hnum.symm]

/-- The first template of a card number in slot order (R62). -/
theorem firstTemplate_eq_some {s : State} {n : CardNo} {i : Fin 8} : s.firstTemplate n = some i ↔
    (look s.ret.templates i).matches n = true ∧ ∀ j : Fin 8, j < i → (look s.ret.templates j).matches n = false :=
  ⟨lowest_eq_some, fun h => lowest_of_first h.1 h.2⟩

theorem firstTemplate_eq_none {s : State} {n : CardNo} :
    s.firstTemplate n = none ↔ ∀ i : Fin 8, (look s.ret.templates i).matches n = false :=
  lowest_eq_none

/-- Settles O18: bits agree under the mask where their difference has no bit in it, and the first match is the lowest. -/
theorem templatesMatchInSlotOrder : Obligations.TemplatesMatchInSlotOrder := by
  refine ⟨fun t n => ?_, fun _ _ _ => firstTemplate_eq_some, fun _ _ => firstTemplate_eq_none⟩
  rw [← xor_and_eq_zero_iff]
  simp [Template.matches]

theorem takeCardGet_unknown {s : State} {n : CardNo} (hn : n ≠ 0) (hnone : s.findCard n = none)
    (hno : s.firstTemplate n = none) : takeCardGet n s = (s, { result := .notFound, content := [0xFF] }) := by
  simp only [takeCardGet, if_neg hn, hnone, hno]

theorem takeCardGet_class {s : State} {n : CardNo} {i : Fin 8} (hn : n ≠ 0) (hnone : s.findCard n = none)
    (hi : s.firstTemplate n = some i) : takeCardGet n s = (s, { result := .notFound, content := nat8 i.val }) := by
  simp only [takeCardGet, if_neg hn, hnone, hi]

theorem takeCardGet_present {s : State} {n : CardNo} {k : Card} (hn : n ≠ 0) (hk : s.findCard n = some k) :
    takeCardGet n s = (s, { result := .ok, content := cardBytes k }) := by
  simp only [takeCardGet, if_neg hn, hk]

theorem takeCardRemove_absent {s : State} {n : CardNo} (hn : n ≠ 0) (hnone : s.findCard n = none) :
    takeCardRemove n s = (s, bare .notFound) := by
  rw [takeCardRemove, if_neg hn, hnone]; rfl

theorem takeCardRemove_present {s : State} {n : CardNo} {k : Card} (hn : n ≠ 0) (hk : s.findCard n = some k) :
    takeCardRemove n s = (s.onRet fun r => { r with cards := r.cards.filter (·.number ≠ n) }, bare .ok) := by
  rw [takeCardRemove, if_neg hn, hk]; rfl

/-- Settles O13: each answer is read off the request's own definition, and the first template off its slot order. -/
theorem cardRemoveGetScan : Obligations.CardRemoveGetScan := by
  intro tag s htag hs
  refine ⟨exec_of_ready_unchanged rfl htag hs rfl, exec_of_ready_unchanged rfl htag hs rfl,
    fun n hn hnone => ⟨?removeAbsent, fun hno => ?getUnknown, fun i hi hlow => ?getClass⟩,
    fun n k hn hk => ⟨?remove, ?get⟩, fun start count n hcount => ?scan⟩
  case removeAbsent => exact exec_of_ready_unchanged rfl htag hs (takeCardRemove_absent hn hnone)
  case getUnknown =>
    exact exec_of_ready_unchanged rfl htag hs (takeCardGet_unknown hn hnone (firstTemplate_eq_none.2 hno))
  case getClass =>
    exact exec_of_ready_unchanged rfl htag hs (takeCardGet_class hn hnone (firstTemplate_eq_some.2 ⟨hi, hlow⟩))
  case remove => exact exec_of_ready_written rfl htag hs (takeCardRemove_present hn hk)
  case get => exact exec_of_ready_unchanged rfl htag hs (takeCardGet_present hn hk)
  case scan =>
    have hresult : (if n = count.toNat then Result.ok else .okClamped) = okIf (n ≠ count.toNat) := by
      by_cases h : n = count.toNat <;> simp [okIf, h]
    rw [hresult, hcount]
    exact exec_of_ready_unchanged rfl htag hs rfl

/-! ## Requests on accounts (R69 to R72) -/

/-- Settles O15: the read changes nothing, and its record is the account's place of the table. -/
theorem accountGetReadsTheRecord : Obligations.AccountGetReadsTheRecord := by
  intro tag index s htag hs
  refine ⟨fun hout => exec_of_ready_unchanged rfl htag hs ?_, fun a ha => exec_of_ready_unchanged rfl htag hs ?_⟩
  · simp only [act, takeAccountGet, accountOf_eq_none.2 hout]
  · simp only [act, takeAccountGet, accountOf_eq_some.2 ha]; rfl

theorem allowanceClamps_iff {b : BitVec 16} : allowanceClamps b = true ↔ b ≠ 0xFFFF ∧ 9999 < b.toNat := by
  simp [allowanceClamps]

/-- Whether a write clamps its allowance or its overdraft, each where it is asked for (R69, R70, R72). -/
theorem clamps_iff {p q : Bool} {a : BitVec 16} {o : Byte} :
    ((p && allowanceClamps a) || (q && o.toNat > 15)) = true ↔
      (p = true ∧ a ≠ 0xFFFF ∧ 9999 < a.toNat) ∨ (q = true ∧ 15 < o.toNat) := by
  rw [Bool.or_eq_true_iff, Bool.and_eq_true_iff, Bool.and_eq_true_iff, allowanceClamps_iff, decide_eq_true_iff]

theorem takeAccountPut_refused {index : BitVec 16} {f : AccountFields} (h : 2048 ≤ index.toNat ∨ 3 ≤ f.state.toNat)
    (s : State) : takeAccountPut index f s = (s, bare .badValue) := by
  unfold takeAccountPut
  split
  · next ha hst =>
    rcases h with h | h
    · simp [accountOf_eq_none.2 h] at ha
    · simp [accountStateOf_eq_none.2 h] at hst
  · rfl

theorem takeAccountAmend_refused {index : BitVec 16} {mask : Byte} {f : AccountFields}
    (h : 2048 ≤ index.toNat ∨ (mask.getLsbD 0 = true ∧ 3 ≤ f.state.toNat)) (s : State) :
    takeAccountAmend index mask f s = (s, bare .badValue) := by
  unfold takeAccountAmend
  split
  · rfl
  · next ha =>
    rcases h with h | ⟨hm, hst⟩
    · simp [accountOf_eq_none.2 h] at ha
    · simp only [masked, if_pos hm, accountStateOf_eq_none.2 hst]

theorem takeAccountPut_taken {index : BitVec 16} {a : AccountNo} {f : AccountFields} {state : AccountState}
    (ha : a.val = index.toNat) (hstate : accountStateOf f.state = some state) (s : State) : takeAccountPut index f s =
      (s.onAccount a fun k =>
          { k with state := state, group := f.group, allowance := allowanceOf f.allowance,
                   overdraft := min 15 f.overdraft.toNat, used := f.used.toNat },
        bare (okIf (allowanceClamps f.allowance || f.overdraft.toNat > 15))) := by
  simp only [takeAccountPut, accountOf_eq_some.2 ha, hstate]

theorem takeAccountAmend_taken {index : BitVec 16} {a : AccountNo} {mask : Byte} {f : AccountFields} {s : State}
    {state : AccountState} (ha : a.val = index.toNat)
    (hstate : masked (mask.getLsbD 0) (look s.ret.accounts a).state (accountStateOf f.state) = some state) :
    takeAccountAmend index mask f s =
      (s.onAccount a fun k =>
          { k with state := state
                   group := if mask.getLsbD 1 then f.group else k.group
                   allowance := if mask.getLsbD 2 then allowanceOf f.allowance else k.allowance
                   overdraft := if mask.getLsbD 3 then min 15 f.overdraft.toNat else k.overdraft
                   used := if mask.getLsbD 4 then f.used.toNat else k.used },
        bare (okIf ((mask.getLsbD 2 && allowanceClamps f.allowance) ||
          (mask.getLsbD 3 && f.overdraft.toNat > 15)))) := by
  simp only [takeAccountAmend, accountOf_eq_some.2 ha, hstate]

/-- An account state that can be stored, with its code. -/
theorem accountStateOf_of_lt {b : Byte} (h : b.toNat < 3) :
    ∃ x, accountStateOf b = some x ∧ x.code = b.toNat :=
  (Option.ne_none_iff_exists'.1 (mt accountStateOf_eq_none.1 (Nat.not_le.2 h))).imp fun _ hx =>
    ⟨hx, accountStateOf_eq_some.1 hx⟩

/-- Settles O14: each write is one account's, whose held count the fields written do not touch. -/
theorem accountWritesKeepHeld : Obligations.AccountWritesKeepHeld := by
  intro tag mask index f s htag hs
  refine ⟨fun h => exec_of_ready_unchanged rfl htag hs (takeAccountPut_refused h _),
    fun h => exec_of_ready_unchanged rfl htag hs (takeAccountAmend_refused h _),
    fun a ha => ⟨fun hst => ?put, fun hst => ?amend⟩⟩
  case put =>
    obtain ⟨state, hstate, hcode⟩ := accountStateOf_of_lt hst
    obtain ⟨hwide, hplain⟩ := okIf_eq (b := allowanceClamps f.allowance || f.overdraft.toNat > 15)
      (by rw [Bool.or_eq_true_iff, allowanceClamps_iff, decide_eq_true_iff])
    exact ⟨_, { look s.ret.accounts a with
                state := state, group := f.group, allowance := allowanceOf f.allowance,
                overdraft := min 15 f.overdraft.toNat, used := f.used.toNat },
      hcode, rfl, rfl, rfl, rfl, rfl, hwide, hplain,
      exec_of_ready_written rfl htag hs (takeAccountPut_taken ha hstate _)⟩
  case amend =>
    obtain ⟨state, hstate, hcode⟩ := masked_eq_some (old := (look s.ret.accounts a).state) fun hm =>
      accountStateOf_of_lt (hst hm)
    obtain ⟨hwide, hplain⟩ := okIf_eq
      (clamps_iff (p := mask.getLsbD 2) (q := mask.getLsbD 3) (a := f.allowance) (o := f.overdraft))
    exact ⟨_, { look s.ret.accounts a with
                state := state
                group := if mask.getLsbD 1 then f.group else (look s.ret.accounts a).group
                allowance := if mask.getLsbD 2 then allowanceOf f.allowance else (look s.ret.accounts a).allowance
                overdraft := if mask.getLsbD 3 then min 15 f.overdraft.toNat else (look s.ret.accounts a).overdraft
                used := if mask.getLsbD 4 then f.used.toNat else (look s.ret.accounts a).used },
      hcode, rfl, rfl, rfl, rfl, rfl, hwide, hplain,
      exec_of_ready_written rfl htag hs (takeAccountAmend_taken (s := queued tag _ s) ha hstate)⟩

theorem inGroup_iff {value mask : Byte} {k : Account} : inGroup value mask k = true ↔
    ∀ b < 8, mask.getLsbD b = true → k.group.getLsbD b = value.getLsbD b := by
  rw [← xor_and_eq_zero_iff, inGroup, decide_eq_true_iff]

/-- The accounts that a GROUP WRITE matches. -/
def groupMembers (f : GroupFields) (s : State) : List AccountNo :=
  (indexes 2048).filter fun a => inGroup f.value f.groupMask (look s.ret.accounts a)

theorem length_groupMembers (f : GroupFields) (s : State) :
    (groupMembers f s).length = countWhere (inGroup f.value f.groupMask) s.ret.accounts := by
  rw [countWhere_eq_indexes, List.countP_eq_length_filter]; rfl

/-- One account after a GROUP WRITE. -/
def groupWritten (f : GroupFields) (k : Account) : Account :=
  if inGroup f.value f.groupMask k then groupChange f k else k

theorem takeGroupWrite_taken {f : GroupFields} (h : f.fieldMask.getLsbD 0 = true → f.state.toNat < 3) (s : State) :
    takeGroupWrite f s = ({ s with ret := { s.ret with accounts := mapAll (groupWritten f) s.ret.accounts } },
      { result := okIf ((f.fieldMask.getLsbD 1 && allowanceClamps f.allowance) ||
          (f.fieldMask.getLsbD 2 && f.overdraft.toNat > 15)),
        content := nat16 (groupMembers f s).length }) := by
  rw [length_groupMembers]
  refine if_neg fun ⟨hm, hnone⟩ => ?_
  exact absurd (h hm) (Nat.not_lt.2 (accountStateOf_eq_none.1 (Option.isNone_iff_eq_none.1 hnone)))

/-- Settles O16: the accounts written are those that match, and the change of one leaves its group and held. -/
theorem groupWriteWritesMatchingAccounts : Obligations.GroupWriteWritesMatchingAccounts := by
  intro tag f s htag hs
  refine ⟨fun hm hst => ?refused, fun hst => ?taken⟩
  case refused =>
    refine exec_of_ready_unchanged rfl htag hs (if_pos ⟨hm, ?_⟩)
    rw [accountStateOf_eq_none.2 hst]; rfl
  case taken =>
    obtain ⟨hclamped, hplain⟩ := okIf_eq
      (clamps_iff (p := f.fieldMask.getLsbD 1) (q := f.fieldMask.getLsbD 2) (a := f.allowance) (o := f.overdraft))
    refine ⟨_, mapAll (groupWritten f) s.ret.accounts, groupMembers f s,
      exec_of_ready_written rfl htag hs (takeGroupWrite_taken hst _),
      (List.nodup_finRange 2048).filter _, fun a => by simp [groupMembers, indexes, inGroup_iff], hclamped, hplain,
      fun a ha => ?_, fun a ha => ?_⟩
    · rw [look_mapAll, groupWritten, if_neg (mt inGroup_iff.1 ha)]
    · rw [look_mapAll, groupWritten, if_pos (inGroup_iff.2 ha)]
      refine ⟨rfl, rfl, ?_, rfl, rfl, rfl⟩
      cases hm : f.fieldMask.getLsbD 0 with
      | false => simp only [groupChange, hm, Bool.false_eq_true, if_false]
      | true =>
        obtain ⟨state, hstate, hcode⟩ := accountStateOf_of_lt (hst hm)
        simp only [groupChange, hm, if_true, hstate, Option.getD_some, hcode]

/-! ## Requests on class templates (R61, R73, R74) -/

/-- The fields of a CLASS PUT's kind that cannot be stored, and the kinds there are not (R73). -/
theorem templateKindOf_eq_none {f : ClassFields} : templateKindOf f = none ↔ 2 ≤ f.kind.toNat ∨
    (f.kind.toNat = 0 ∧ (32 ≤ f.rights.toNat ∨ ∃ a, f.account = some a ∧ 2048 ≤ a.toNat)) ∨
      (f.kind.toNat = 1 ∧ 2 ≤ f.mode.toNat) := by
  unfold templateKindOf
  split
  · next hk =>
    cases hr : fractionSetOf f.rights with
    | none => simp [hk, fractionSetOf_eq_none.1 hr]
    | some rights =>
      have hlt := (fractionSetOf_eq_some.1 hr).1
      cases hacc : f.account with
      | none => simp [hk, hlt]
      | some a => simp [hk, hlt, accountOf_eq_none]
  · next hk => simp [hk, visitModeOf_eq_none]
  · next h0 h1 => simp only [true_iff]; exact .inl (Nat.two_le_iff _ |>.2 ⟨h0, h1⟩)

/-- The fields of a template's kind, as a CLASS PUT that is not refused carries them (R73). -/
theorem templateKindOf_eq_some {f : ClassFields} {kind : TemplateKind} (h : templateKindOf f = some kind) :
    (f.kind.toNat = 0 → ∃ account, kind = .guest (f.rights.setWidth 5) account ∧
        account.map (fun a : AccountNo => a.val) = f.account.map (·.toNat)) ∧
      (f.kind.toNat = 1 → ∃ mode : VisitMode, kind = .crew mode ∧ mode.code = f.mode.toNat) := by
  unfold templateKindOf at h
  refine ⟨fun hk => ?_, fun hk => ?_⟩
  · simp only [hk] at h
    obtain ⟨rights, hr, h⟩ := Option.bind_eq_some_iff.1 h
    obtain ⟨-, rfl⟩ := fractionSetOf_eq_some.1 hr
    cases hacc : f.account with
    | none =>
      simp only [hacc, Option.some.injEq] at h
      exact ⟨none, h.symm, rfl⟩
    | some a =>
      simp only [hacc] at h
      obtain ⟨b, hb, rfl⟩ := Option.map_eq_some_iff.1 h
      exact ⟨some b, rfl, congrArg some (accountOf_eq_some.1 hb)⟩
  · simp only [hk] at h
    obtain ⟨mode, hm, rfl⟩ := Option.map_eq_some_iff.1 h
    exact ⟨mode, rfl, visitModeOf_eq_some.1 hm⟩

/-- Settles O17: a CLASS PUT is refused where its slot or its kind's fields are none, and else writes its one slot. -/
theorem classPutAndGet : Obligations.ClassPutAndGet := by
  intro tag slot f s htag hs
  refine ⟨fun h => ?refused, fun h => ?getRefused, fun i hi => ⟨?get, fun hk hguest hcrew => ?put⟩⟩
  case refused =>
    refine exec_of_ready_unchanged rfl htag hs ?_
    rcases h with h | h
    · simp only [act, takeClassPut, eightOf_eq_none.2 h]
    · simp only [act, takeClassPut, templateKindOf_eq_none.2 h]
      cases eightOf slot <;> rfl
  case getRefused =>
    refine exec_of_ready_unchanged rfl htag hs ?_
    simp only [act, takeClassGet, eightOf_eq_none.2 h]
  case get =>
    refine exec_of_ready_unchanged rfl htag hs ?_
    simp only [act, takeClassGet, eightOf_eq_some.2 hi]; rfl
  case put =>
    have hgood : templateKindOf f ≠ none := fun hnone => by
      rcases templateKindOf_eq_none.1 hnone with h | h | h
      · exact absurd hk (Nat.not_lt.2 h)
      · exact hguest h
      · exact hcrew h
    obtain ⟨kind, hkind⟩ := Option.ne_none_iff_exists'.1 hgood
    obtain ⟨hzero, hone⟩ := templateKindOf_eq_some hkind
    refine ⟨kind, hzero, hone, exec_of_ready_written rfl htag hs ?_⟩
    simp only [act, takeClassPut, eightOf_eq_some.2 hi, hkind]; rfl

end Sys2Proof.Machine
end

section
/-! PROOFS. A card presentation that is granted (R57, R78, R79, R81, R82). -/

namespace Sys2Proof.Machine

/-! ## Line frames and read-outs (R136, R159) -/

theorem onesSum_append (l : List Byte) (b : Byte) : onesSum (l ++ [b]) = onesAdd (onesSum l) b := by
  simp [onesSum]

/-- A SUM byte completes the ones'-complement sum to 0xFF (R136). -/
theorem onesAdd_complement (x : Byte) : onesAdd x (0xFF - x) = 0xFF := by
  have hsum : x.toNat + (0xFF - x).toNat = 255 := by bv_omega
  simp only [onesAdd, hsum]; rfl

/-- A frame formed as the CS64 forms it is good, and carries what it was formed from (R136). -/
theorem openLineFrame_lineFrame (addr cmd : Byte) {p : List Byte} (hp : p.length ≤ Config.lineMaxLength) :
    openLineFrame (lineFrame addr cmd p) = some (addr, cmd, p) := by
  have hlen : (BitVec.ofNat 8 p.length).toNat = p.length := by
    have : p.length ≤ 32 := hp
    rw [BitVec.toNat_ofNat]; omega
  have hsum : onesSum (lineFrame addr cmd p) = 0xFF := by
    rw [lineFrame, onesSum_append, onesAdd_complement]
  have hopen : openLineFrame (lineFrame addr cmd p) =
      if (BitVec.ofNat 8 p.length).toNat ≤ Config.lineMaxLength ∧
          (p ++ [0xFF - onesSum (addr :: cmd :: BitVec.ofNat 8 p.length :: p)]).length =
            (BitVec.ofNat 8 p.length).toNat + 1 ∧ onesSum (lineFrame addr cmd p) = 0xFF
        then some (addr, cmd, (p ++ [0xFF - onesSum (addr :: cmd :: BitVec.ofNat 8 p.length :: p)]).take
          (BitVec.ofNat 8 p.length).toNat) else none := rfl
  rw [hopen, hlen, if_pos ⟨hp, by simp, hsum⟩, List.take_left]

theorem answerPayload_answerFrame (a : AddrNo) (code : Byte) {p : List Byte} (hp : p.length ≤ Config.lineMaxLength) :
    answerPayload a code (answerFrame a code p) = some p := by
  simp [answerPayload, answerFrame, openLineFrame_lineFrame _ _ hp]

theorem join40_split40 (x : BitVec 40) : join40 (x.extractLsb' 32 8) (x.extractLsb' 24 8) (x.extractLsb' 16 8)
    (x.extractLsb' 8 8) (x.extractLsb' 0 8) = x := by
  refine BitVec.eq_of_getLsbD_eq fun i hi => ?_
  have h (k m : Nat) (hm : m < 8) (hk : k + m = i) : (x.extractLsb' k 8).getLsbD m = x.getLsbD i := by
    rw [BitVec.getLsbD_extractLsb', decide_eq_true hm, Bool.true_and, hk]
  simp only [join40, BitVec.getLsbD_append]
  repeat' split
  all_goals exact h _ _ (by omega) (by omega)

theorem slotOf_ofNat (sl : SlotNo) : slotOf (BitVec.ofNat 8 sl.val) = some sl := by
  have h : (BitVec.ofNat 8 sl.val).toNat = sl.val := by rw [BitVec.toNat_ofNat]; omega
  simp [slotOf, h]

/-- The answer of a read-out of class CARD carries the reader's slot and the card number (section 9.3). -/
theorem readAnswer_card (sl : SlotNo) (n : CardNo) :
    readAnswer .card ([2, BitVec.ofNat 8 sl.val] ++ split40 n) = some (some (.card sl n)) := by
  simp [readAnswer, split40, AttnClass.number, slotOf_ofNat, join40_split40]

/-- A card presented at a reader is handed over with its slot, once the read-out is answered (R159, R161). -/
theorem exec_cardRead {s : State} {a : AddrNo} (hv : s.vdd = true) (ht : s.turnKind = some (.read .card a))
    (sl : SlotNo) (n : CardNo) :
    exec (.attnReadEnd (.answered (answerFrame a 0x09 ([2, BitVec.ofNat 8 sl.val] ++ split40 n)))) s =
      .next (endTurn a true (takeCard (s.handedStation a) sl n (heard a s))) := by
  have hp := answerPayload_answerFrame a codeRead (p := [2, BitVec.ofNat 8 sl.val] ++ split40 n)
    (by simp [split40, Config.lineMaxLength])
  have hread : takeReadEnd (.answered (answerFrame a codeRead ([2, BitVec.ofNat 8 sl.val] ++ split40 n))) s =
      endReadAnswered a (some (.card sl n)) s := by
    simp only [takeReadEnd, ht, hp, Option.bind_some, readAnswer_card]
  show Host.Outcome.next (if s.vdd then takeReadEnd (.answered (answerFrame a codeRead _)) s else s) = _
  rw [if_pos hv, hread]
  rfl

/-! ## The state a record reaches its owner in (R159, R163) -/

theorem heard_cases (a : AddrNo) (s : State) : heard a s = setQuiet (delivered a s) ∨ heard a s = delivered a s := by
  unfold heard
  split
  · exact .inl rfl
  · exact .inr rfl

@[simp] theorem heard_ret (a : AddrNo) (s : State) : (heard a s).ret = s.ret := by
  rcases heard_cases a s with h | h <;> rw [h] <;> rfl

@[simp] theorem heard_main_sched (a : AddrNo) (s : State) : (heard a s).main.sched = s.main.sched := by
  rcases heard_cases a s with h | h <;> rw [h] <;> rfl

@[simp] theorem heard_main_slots (a : AddrNo) (s : State) : (heard a s).main.slots = s.main.slots := by
  rcases heard_cases a s with h | h <;> rw [h] <;> rfl

theorem heard_won (a : AddrNo) (s : State) : (heard a s).main.line.attention.won = none := by
  rcases heard_cases a s with h | h <;> rw [h] <;> rfl

theorem heard_power_state (a : AddrNo) (s : State) : (heard a s).main.line.power.state = s.main.line.power.state := by
  rcases heard_cases a s with h | h <;> rw [h] <;> rfl

/-! ## Deciding a presentation (R81) -/

/-- The decision reads the retained domain alone. -/
theorem decide_of_ret {s t : State} (h : t.ret = s.ret) (st : StationNo) (c : ChamberNo) (g : ChamberConfig) (n : CardNo) :
    t.decide st c g n = s.decide st c g n := by
  cases s; cases t; cases h; rfl

/-- A card or a GUEST template that passes checks 1 to 3 goes on to the others (R81). -/
theorem decide_of_admits {s : State} {st : StationNo} {n : CardNo} {kind : SessionKind} {rights : FractionSet}
    {account : Option AccountNo} (h : admits s st n kind rights account) (c : ChamberNo) (g : ChamberConfig) :
    s.decide st c g n = s.decideFrom4 c g rights kind account := by
  obtain ⟨hn, ⟨k, hk, hstate, hscope, rfl, rfl, rfl⟩ | ⟨hnone, i, hi, hkind, rfl⟩⟩ := h
  · have hwrong : ¬ (k.scope.any fun set => !set.getLsbD st.val) = true := by
      cases hs : k.scope with
      | none => simp
      | some set => simp only [Option.any_some, hscope set hs]; decide
    simp only [State.decide, if_neg hn, State.resolve, hk, hstate, if_neg hwrong]
  · simp only [State.decide, if_neg hn, State.resolve, hnone, hi, hkind]

/-- The grant of a presentation that passes every check (R79, R81). -/
def grantFor (s : State) (g : ChamberConfig) (kind : SessionKind) (account : Option AccountNo) : Grant :=
  { kind := kind, account := account, charged := holds s.ret.settings.charged g.fraction && account.isSome }

theorem decideFrom4_granted {s : State} {c : ChamberNo} {g : ChamberConfig} {rights : FractionSet} {kind : SessionKind}
    {account : Option AccountNo} (hrights : rights.getLsbD g.fraction.code = true)
    (hopen : ∀ b, account = some b → (look s.ret.accounts b).state = .opened) (hacc : s.access c = .opened)
    (hses : s.session c = none)
    (hallow : ∀ b m, (grantFor s g kind account).charged = true → account = some b →
      (look s.ret.accounts b).allowance = .limited m →
        (look s.ret.accounts b).used + (look s.ret.accounts b).held < m + (look s.ret.accounts b).overdraft)
    (hroom : s.roomTaken < 4096) :
    s.decideFrom4 c g rights kind account = .granted (grantFor s g kind account) := by
  have hstate : ∀ x : AccountState, x ≠ .opened →
      ¬ ((account.map (look s.ret.accounts)).any fun k => k.state = x) = true := fun x hx => by
    cases account with
    | none => simp
    | some b => simpa [hopen b rfl] using hx.symm
  have hdeposit : ¬ ((grantFor s g kind account).charged && (account.map (look s.ret.accounts)).any fun k =>
      match k.allowance with
      | .limited m => !(k.used + k.held < m + k.overdraft)
      | .unlimited => false) = true := fun h => by
    obtain ⟨hc, hany⟩ := Bool.and_eq_true_iff.1 h
    cases account with
    | none => simp at hany
    | some b =>
      cases hb : (look s.ret.accounts b).allowance with
      | limited m => simp [hb, hallow b m hc rfl hb] at hany
      | unlimited => simp [hb] at hany
  unfold State.decideFrom4
  dsimp only
  rw [if_neg (by simp [holds, hrights]), if_neg (hstate .unused nofun),
    if_neg (hstate .closed nofun)]
  simp only [hacc, hses]
  exact (if_neg Bool.false_ne_true).trans ((if_neg hdeposit).trans (if_neg (by simp [Config.journalRoom, hroom])))

/-! ## What a grant writes (R82) -/

/-- The accounts after step 2 of a grant. -/
def reserved (x : Grant) (v : Vector Account 2048) : Vector Account 2048 :=
  match x.charged, x.account with
  | true, some b => put v b { look v b with held := (look v b).held + 1 }
  | _, _ => v

theorem reserve_eq (x : Grant) (s : State) :
    reserve x s = { s with ret := { s.ret with accounts := reserved x s.ret.accounts } } := by
  obtain ⟨kind, account, charged⟩ := x
  cases charged <;> cases account <;> rfl

theorem reserved_of_charged {x : Grant} {b : AccountNo} (hc : x.charged = true) (hb : x.account = some b)
    (v : Vector Account 2048) : reserved x v = put v b { look v b with held := (look v b).held + 1 } := by
  simp only [reserved, hc, hb]

theorem reserved_of_uncharged {x : Grant} (hc : x.charged = false) (v : Vector Account 2048) : reserved x v = v := by
  simp only [reserved, hc]

/-- The cards after the last use of one is recorded. -/
def usedCards (n : CardNo) (st : StationNo) (time : Seconds) (l : List Card) : List Card :=
  l.map fun k => if k.number = n then { k with lastUse := some { station := st, time := time } } else k

theorem find_usedCards (n m : CardNo) (st : StationNo) (time : Seconds) (l : List Card) :
    (usedCards n st time l).find? (·.number = m) = (l.find? (·.number = m)).map fun k =>
      if k.number = n then { k with lastUse := some { station := st, time := time } } else k := by
  rw [usedCards, List.find?_map]
  congr 2
  funext k
  simp only [Function.comp]; split <;> rfl

theorem find_usedCards_same {n : CardNo} {st : StationNo} {time : Seconds} {l : List Card} {k : Card}
    (h : l.find? (·.number = n) = some k) : (usedCards n st time l).find? (·.number = n) =
      some { k with lastUse := some { station := st, time := time } } := by
  have hk : k.number = n := by simpa using List.find?_some h
  rw [find_usedCards, h, Option.map_some, if_pos hk]

theorem find_usedCards_other {n m : CardNo} (hm : m ≠ n) (st : StationNo) (time : Seconds) (l : List Card) :
    (usedCards n st time l).find? (·.number = m) = l.find? (·.number = m) := by
  rw [find_usedCards]
  cases hf : l.find? (·.number = m) with
  | none => rfl
  | some k =>
    have hk : k.number = m := by simpa using List.find?_some hf
    rw [Option.map_some, if_neg (hk ▸ hm)]

/-- What a grant writes before it turns to the line: the session, the reservation, (JOURNAL) where the room is taken, and
the last use of a resident card. -/
def grantRecorded (st : StationNo) (c : ChamberNo) (g : ChamberConfig) (n : CardNo) (x : Grant) (s : State) : State :=
  let s := reserve x (s.setSession c (some (newSession n x g.window s)))
  let s := if s.roomTaken = Config.journalRoom then post .journal s else s
  if x.kind = .resident then useCard n st s else s

section
variable (st : StationNo) (c : ChamberNo) (g : ChamberConfig) (n : CardNo) (x : Grant) (s : State)

theorem grant_eq : grant st c g n x s =
    abandonPreparation .grant (postCommand c (.unlock g.window) (disturb c (grantRecorded st c g n x s))) := rfl

theorem grantRecorded_ret : (grantRecorded st c g n x s).ret =
    { s.ret with
      sessions := put s.ret.sessions c (some (newSession n x g.window s))
      accounts := reserved x s.ret.accounts
      cards := if x.kind = .resident then usedCards n st s.now s.ret.cards else s.ret.cards } := by
  unfold grantRecorded
  dsimp only
  rw [reserve_eq]
  split <;> split <;> rfl

theorem grantRecorded_main : ∃ outbox, (grantRecorded st c g n x s).main =
    { s.main with host := { s.main.host with outbox := outbox } } := by
  unfold grantRecorded
  dsimp only
  rw [reserve_eq]
  split <;> split <;> exact ⟨_, rfl⟩

/-- A grant that takes the last of the journal's room posts (JOURNAL) (R107). -/
theorem posted_journal_grantRecorded (hses : s.session c = none) (hroom : s.roomTaken = 4095) :
    posted .journal (grantRecorded st c g n x s) := by
  have hfull : (reserve x (s.setSession c (some (newSession n x g.window s)))).roomTaken = Config.journalRoom := by
    have hput : countWhere Option.isSome (put s.ret.sessions c (some (newSession n x g.window s))) =
        countWhere Option.isSome s.ret.sessions + 1 := by
      rw [countWhere_put, show look s.ret.sessions c = none from hses]; rfl
    rw [reserve_eq]
    show s.ret.journal.length + countWhere Option.isSome (put _ _ _) = _
    rw [hput]; exact congrArg (· + 1) hroom
  unfold grantRecorded
  dsimp only
  rw [if_pos hfull]
  split <;> exact posted_post ..

theorem abandonPreparation_ret (k : PowerCause) : (abandonPreparation k s).ret = s.ret := by
  unfold abandonPreparation; split <;> rfl

theorem abandonPreparation_main (k : PowerCause) : ∃ (outbox : List OutboxKey) (power : Power),
    (abandonPreparation k s).main =
      { s.main with host := { s.main.host with outbox := outbox }, line := { s.main.line with power := power } } := by
  unfold abandonPreparation; split <;> exact ⟨_, _, rfl⟩

theorem posted_abandonPreparation {k : Key} (h : posted k s) (cause : PowerCause) :
    posted k (abandonPreparation cause s) := by
  unfold abandonPreparation
  split
  · obtain ⟨e, he, hk⟩ := h
    exact posted_setQuiet.2 (List.mem_map.1
      (mem_postWith_of_mem (s.onPower _) .line k 0 0 (List.mem_map.2 ⟨e, he, hk⟩)))
  · exact h

/-- An UNLOCK takes an empty pending place. -/
theorem postCommand_of_empty {cmd : Command} (h : (s.slot c).pending = none) :
    ((postCommand c cmd s).slot c).pending = some (cmd, s.now) := by
  simp only [postCommand, h]
  exact congrArg CommandSlot.pending (look_put_same ..)

/-- An UNLOCK replaces every pending command but LOCK, and keeps its posted time (R11). -/
theorem postCommand_unlock_of_pending {w : Nat} {cmd : Command} {time : Seconds}
    (h : (s.slot c).pending = some (cmd, time)) (hl : cmd ≠ .lock) :
    ((postCommand c (.unlock w) s).slot c).pending = some (.unlock w, time) := by
  have hm : meet (.unlock w) cmd = .replaced := by
    cases cmd
    case lock => exact absurd rfl hl
    all_goals rfl
  simp only [postCommand, h, hm]
  exact congrArg CommandSlot.pending (look_put_same ..)

end

/-! ## The grant on the whole part -/

section
variable (st : StationNo) (c : ChamberNo) (g : ChamberConfig) (n : CardNo) (x : Grant) (s : State)

theorem grant_ret : (grant st c g n x s).ret =
    { s.ret with
      sessions := put s.ret.sessions c (some (newSession n x g.window s))
      accounts := reserved x s.ret.accounts
      cards := if x.kind = .resident then usedCards n st s.now s.ret.cards else s.ret.cards } := by
  rw [grant_eq, abandonPreparation_ret, (postCommand_step _ c _).ret, ← grantRecorded_ret]; rfl

/-- What a grant makes of the main domain besides the slots and the posting order. -/
theorem grant_main : ∃ (outbox : List OutboxKey) (power : Power) (slots : Vector CommandSlot 64)
    (posting : List ChamberNo), (grant st c g n x s).main =
      { (disturb c s).main with
        host := { s.main.host with outbox := outbox }, line := { s.main.line with power := power }
        slots := slots, posting := posting } := by
  obtain ⟨outbox, hrec⟩ := grantRecorded_main st c g n x s
  obtain ⟨slot, posting, hpost, -⟩ := postCommand_step (disturb c (grantRecorded st c g n x s)) c (.unlock g.window)
  obtain ⟨outbox', power, hprep⟩ := abandonPreparation_main
    (postCommand c (.unlock g.window) (disturb c (grantRecorded st c g n x s))) .grant
  have hdist : (disturb c (grantRecorded st c g n x s)).main =
      { (disturb c s).main with host := { s.main.host with outbox := outbox } } := by
    rw [disturb, State.onSched, State.onMain, hrec]; rfl
  rw [grant_eq, hprep, hpost]
  exact ⟨_, _, _, _, by rw [hdist]; rfl⟩

theorem look_inflight_disturb (o : StationNo) : look (disturb c s).main.sched.inflight o =
    (look s.main.sched.inflight o).map fun r => if r.chamber = c then { r with disturbed := true } else r :=
  look_mapAll ..

/-- Before the UNLOCK is posted, the slots, the line and the clock stand as they did. -/
theorem disturb_grantRecorded : (disturb c (grantRecorded st c g n x s)).main.slots = s.main.slots ∧
    (disturb c (grantRecorded st c g n x s)).main.line = s.main.line ∧
    (disturb c (grantRecorded st c g n x s)).now = s.now := by
  obtain ⟨outbox, hrec⟩ := grantRecorded_main st c g n x s
  refine ⟨?_, ?_, ?_⟩
  · show (grantRecorded st c g n x s).main.slots = _; rw [hrec]
  · show (grantRecorded st c g n x s).main.line = _; rw [hrec]
  · show (grantRecorded st c g n x s).ret.clock.part = _; rw [grantRecorded_ret]; rfl

end

theorem slot_abandonPreparation (k : PowerCause) (s : State) (c : ChamberNo) :
    (abandonPreparation k s).slot c = s.slot c := by
  obtain ⟨_, _, h⟩ := abandonPreparation_main s k
  rw [State.slot, h]; rfl

section
variable {st : StationNo} {c : ChamberNo} {g : ChamberConfig} {n : CardNo} {x : Grant} {s : State}

theorem grant_slot_of_empty (h : (s.slot c).pending = none) :
    ((grant st c g n x s).slot c).pending = some (.unlock g.window, s.now) := by
  obtain ⟨hslots, -, hnow⟩ := disturb_grantRecorded st c g n x s
  rw [grant_eq, slot_abandonPreparation, postCommand_of_empty, hnow]
  rwa [State.slot, hslots]

theorem grant_slot_of_pending {cmd : Command} {time : Seconds} (h : (s.slot c).pending = some (cmd, time))
    (hl : cmd ≠ .lock) : ((grant st c g n x s).slot c).pending = some (.unlock g.window, time) := by
  obtain ⟨hslots, -, -⟩ := disturb_grantRecorded st c g n x s
  rw [grant_eq, slot_abandonPreparation]
  exact postCommand_unlock_of_pending c _ (by rwa [State.slot, hslots]) hl

/-- The line as a grant leaves it, up to the abandoned preparation. -/
theorem grant_line_before : (postCommand c (.unlock g.window) (disturb c (grantRecorded st c g n x s))).main.line =
    s.main.line := by
  obtain ⟨slot, posting, hpost, -⟩ := postCommand_step (disturb c (grantRecorded st c g n x s)) c (.unlock g.window)
  rw [hpost]; exact (disturb_grantRecorded st c g n x s).2.1

theorem posted_journal_grant (hses : s.session c = none) (hroom : s.roomTaken = 4095) :
    posted .journal (grant st c g n x s) := by
  rw [grant_eq]
  refine posted_abandonPreparation _ ?_ _
  obtain ⟨slot, posting, hpost, -⟩ := postCommand_step (disturb c (grantRecorded st c g n x s)) c (.unlock g.window)
  rw [hpost]
  exact posted_journal_grantRecorded st c g n x s hses hroom

/-- A grant in PREPARING takes the line back to ACTIVE (R165). -/
theorem grant_of_preparing (h : s.main.line.power.state = .preparing) :
    (grant st c g n x s).main.line.power.state = .active ∧ (grant st c g n x s).main.line.power.cause = .grant ∧
      posted .line (grant st c g n x s) := by
  rw [grant_eq, abandonPreparation_of_preparing (by rw [grant_line_before]; exact h)]
  exact ⟨rfl, rfl, posted_setQuiet.2 (posted_changePower ..)⟩

theorem grant_of_not_preparing (h : s.main.line.power.state ≠ .preparing) :
    (grant st c g n x s).main.line.power.state = s.main.line.power.state := by
  rw [grant_eq, abandonPreparation, if_neg (by rw [grant_line_before]; exact h), grant_line_before]

theorem takeCard_granted {sl : SlotNo} (hm : s.mapped st sl = some c) (hg : (s.chamber c).config = some g)
    (hacc : s.access c = .opened) (hd : s.decide st c g n = .granted x) :
    takeCard (some st) sl n s = grant st c g n x s := by
  simp [takeCard, hm, hg, hacc, hd]

end

/-- Settles O39: the presentation is decided granted, and the grant's session, reservation, last use, UNLOCK and abandoned
preparation are each read off what a grant writes. -/
theorem cardGrantOpensASession : Obligations.CardGrantOpensASession := by
  intro s a st sl c g n kind rights account hv hturn hst hmap hg hadm hrights hopen hacc hses
  dsimp only
  intro hallow hroom
  have hd : (heard a s).decide st c g n = .granted (grantFor s g kind account) := by
    rw [decide_of_ret (heard_ret a s), decide_of_admits hadm]
    exact decideFrom4_granted hrights hopen hacc hses hallow hroom
  have htake : takeCard (s.handedStation a) sl n (heard a s) =
      grant st c g n (grantFor s g kind account) (heard a s) := by
    rw [hst]
    exact takeCard_granted (by rwa [State.mapped, heard_ret]) (by rwa [State.chamber, heard_ret])
      (by rwa [State.access, State.chamber, heard_ret]) hd
  have hnow : (heard a s).now = s.now := by rw [State.now, heard_ret]; rfl
  have hnew : newSession n (grantFor s g kind account) g.window (heard a s) =
      newSession n (grantFor s g kind account) g.window s := by
    simp only [newSession, State.now, State.deadlineIn, State.elapsed, heard_ret]
  have hslot : (heard a s).slot c = s.slot c := by rw [State.slot, heard_main_slots]; rfl
  have hret := grant_ret st c g n (grantFor s g kind account) (heard a s)
  rw [hnew, hnow, heard_ret] at hret
  obtain ⟨outbox, power, slots, posting, hmain⟩ := grant_main st c g n (grantFor s g kind account) (heard a s)
  refine ⟨grant st c g n (grantFor s g kind account) (heard a s), (exec_cardRead hv hturn sl n).trans (by rw [htake]),
    ?session, fun o ho => ?sessions, fun b hc hb => ?charged, fun hc => ?uncharged, fun k hk hf => ?used,
    fun hk => ?guest, fun m hm => ?others, ?rest, fun o r hr => ?inflight, fun he => ?empty, fun cmd time hp hl => ?pending,
    fun hr => ?journal, ?won, fun hp => ?preparing, fun hp => ?standing⟩
  case session => rw [State.session, hret]; exact look_put_same ..
  case sessions => rw [State.session, hret]; exact look_put_other _ _ _ _ ho
  case charged => rw [hret]; exact reserved_of_charged (x := grantFor s g kind account) hc hb _
  case uncharged => rw [hret]; exact reserved_of_uncharged (x := grantFor s g kind account) hc _
  case used =>
    rw [State.findCard, hret]
    dsimp only
    rw [if_pos (show (grantFor s g kind account).kind = .resident from hk)]
    exact find_usedCards_same hf
  case guest => rw [hret]; exact if_neg (by rw [show (grantFor s g kind account).kind = kind from rfl, hk]; decide)
  case others =>
    rw [State.findCard, hret]
    dsimp only
    split
    · exact find_usedCards_other hm ..
    · rfl
  case rest => rw [hret]
  case inflight =>
    rw [hmain]
    refine (look_inflight_disturb c (heard a s) o).trans ?_
    rw [heard_main_sched, hr]; rfl
  case empty => rw [← hnow]; exact grant_slot_of_empty (by rw [hslot]; exact he)
  case pending => exact grant_slot_of_pending (by rw [hslot]; exact hp) hl
  case journal =>
    refine posted_journal_grant (by rw [State.session, heard_ret]; exact hses) ?_
    rw [State.roomTaken, State.openSessions, heard_ret]; exact hr
  case won => rw [hmain]; exact heard_won a s
  case preparing => exact grant_of_preparing ((heard_power_state a s).trans hp)
  case standing =>
    exact (grant_of_not_preparing (by rw [heard_power_state]; exact hp)).trans (heard_power_state a s)

end Sys2Proof.Machine
end

section
/-! PROOFS. A card presentation that is refused (R80, R81, R83). -/

namespace Sys2Proof.Machine

/-! ## What the checks on the account read (R81) -/

/-- The presentation carries an account, and that account is in this state. -/
def accountIn (s : State) (account : Option AccountNo) (x : AccountState) : Prop :=
  ∃ b, account = some b ∧ (look s.ret.accounts b).state = x

/-- The deposit would be charged, and the account's limited allowance and overdraft are taken up (R60, R81). -/
def allowanceSpent (s : State) (g : ChamberConfig) (account : Option AccountNo) : Prop :=
  s.ret.settings.charged.getLsbD g.fraction.code = true ∧ ∃ b m, account = some b ∧
    (look s.ret.accounts b).allowance = .limited m ∧
    m + (look s.ret.accounts b).overdraft ≤ (look s.ret.accounts b).used + (look s.ret.accounts b).held

theorem anyAccount_state_iff (s : State) (account : Option AccountNo) (x : AccountState) :
    ((account.map (look s.ret.accounts)).any fun k => k.state = x) = true ↔ accountIn s account x := by
  cases account <;> simp [accountIn]

theorem not_accountIn_of_opened {s : State} {account : Option AccountNo} {x : AccountState}
    (h : account = none ∨ accountIn s account .opened) (hx : x ≠ .opened) : ¬ accountIn s account x := by
  rintro ⟨b, rfl, hb⟩
  obtain h | ⟨_, ⟨⟩, hopen⟩ := h
  · cases h
  · exact hx (hb.symm.trans hopen)

/-- The allowance check fails exactly where the allowance is spent (R81, check 8). -/
theorem allowance_check_iff (s : State) (g : ChamberConfig) (account : Option AccountNo) :
    ((holds s.ret.settings.charged g.fraction && account.isSome) &&
      (account.map (look s.ret.accounts)).any fun k =>
        match k.allowance with
        | .limited m => !(k.used + k.held < m + k.overdraft)
        | .unlimited => false) = true ↔ allowanceSpent s g account := by
  cases account with
  | none => simp [allowanceSpent]
  | some b => cases hb : (look s.ret.accounts b).allowance <;> simp [allowanceSpent, holds, hb]

/-! ## The checks on rights, account and access state (R81, checks 4 to 9) -/

/-- The code with which an access state refuses a presentation (R81, check 6). -/
def Access.refusal : Access → Option DenyCode
  | .full => some .full
  | .locking | .locked | .lifted => some .emptying
  | .blocked => some .blocked
  | .offline | .unconfigured => some .noChamber
  | .opened => none

section
variable {s : State} {c : ChamberNo} {g : ChamberConfig} {rights : FractionSet} {kind : SessionKind}
  {account : Option AccountNo}

theorem decideFrom4_noRight (h : rights.getLsbD g.fraction.code = false) :
    s.decideFrom4 c g rights kind account = .denied .fraction :=
  if_pos (by simp [holds, h])

theorem decideFrom4_noAccount (hr : rights.getLsbD g.fraction.code = true) (h : accountIn s account .unused) :
    s.decideFrom4 c g rights kind account = .denied .noAccount :=
  (if_neg (by simp [holds, hr])).trans (if_pos ((anyAccount_state_iff ..).2 h))

theorem decideFrom4_accountClosed (hr : rights.getLsbD g.fraction.code = true) (h : accountIn s account .closed) :
    s.decideFrom4 c g rights kind account = .denied .accountClosed := by
  have hunused : ¬ accountIn s account .unused := by
    rintro ⟨b, rfl, hb⟩
    obtain ⟨_, ⟨⟩, hclosed⟩ := h
    cases hb.symm.trans hclosed
  exact (if_neg (by simp [holds, hr])).trans ((if_neg (mt (anyAccount_state_iff ..).1 hunused)).trans
    (if_pos ((anyAccount_state_iff ..).2 h)))

/-- Once rights and account have passed, the access state is checked, and at an OPEN chamber the session, the allowance and
the journal's room (R81, checks 6 to 9). -/
theorem decideFrom4_past_account (hr : rights.getLsbD g.fraction.code = true)
    (hacct : account = none ∨ accountIn s account .opened) :
    (∀ d, (s.access c).refusal = some d → s.decideFrom4 c g rights kind account = .denied d) ∧
    (s.access c = .opened →
      ((s.session c).isSome = true → s.decideFrom4 c g rights kind account = .denied .hatchBusy) ∧
      (s.session c = none → allowanceSpent s g account → s.decideFrom4 c g rights kind account = .denied .allowance) ∧
      (s.session c = none → ¬ allowanceSpent s g account → 4096 ≤ s.roomTaken →
        s.decideFrom4 c g rights kind account = .denied .journalFull)) := by
  have hpast (x : AccountState) (hx : x ≠ .opened) :=
    mt (anyAccount_state_iff s account x).1 (not_accountIn_of_opened hacct hx)
  unfold State.decideFrom4
  dsimp only
  rw [if_neg (by simp [holds, hr]), if_neg (hpast .unused nofun), if_neg (hpast .closed nofun)]
  refine ⟨fun d hd => ?refused, fun hacc => ?opened⟩
  case refused =>
    cases ha : s.access c
    all_goals rw [ha] at hd; cases hd
    all_goals rfl
  case opened =>
    simp only [hacc]
    refine ⟨fun hses => if_pos hses, fun hses hspent => ?_, fun hses hspent hroom => ?_⟩
    · exact (if_neg (by simp [hses])).trans (if_pos ((allowance_check_iff ..).2 hspent))
    · have hfull : ¬ s.roomTaken < Config.journalRoom := Nat.not_lt.2 hroom
      exact (if_neg (by simp [hses])).trans ((if_neg (mt (allowance_check_iff ..).1 hspent)).trans
        (if_pos (by simp [hfull])))

end

/-! ## The checks on the card (R81, checks 1 to 3) -/

section
variable {s : State} {st : StationNo} {c : ChamberNo} {g : ChamberConfig} {n : CardNo}

theorem decide_unknownCard (h : n = 0 ∨ (s.findCard n = none ∧ s.firstTemplate n = none)) :
    s.decide st c g n = .denied .unknownCard := by
  obtain h | ⟨hcard, htemplate⟩ := h
  · exact if_pos h
  · simp [State.decide, State.resolve, hcard, htemplate]

theorem decide_lost {k : Card} (hn : n ≠ 0) (hk : s.findCard n = some k) (h : k.state = .lost) :
    s.decide st c g n = .denied .lost := by
  simp only [State.decide, if_neg hn, State.resolve, hk, h]

theorem decide_suspended {k : Card} (hn : n ≠ 0) (hk : s.findCard n = some k) (h : k.state = .suspended) :
    s.decide st c g n = .denied .suspended := by
  simp only [State.decide, if_neg hn, State.resolve, hk, h]

theorem decide_wrongStation {k : Card} (hn : n ≠ 0) (hk : s.findCard n = some k) (h : k.state = .active)
    {set : StationSet} (hset : k.scope = some set) (hout : set.getLsbD st.val = false) :
    s.decide st c g n = .denied .wrongStation := by
  simp only [State.decide, if_neg hn, State.resolve, hk, h]
  exact if_pos (by rw [hset, Option.any_some, hout]; rfl)

/-! ## The refusal on the whole part (R80, R83) -/

theorem takeCard_unmapped {sl : SlotNo} (h : s.mapped st sl = none) : takeCard (some st) sl n s = s := by
  simp [takeCard, h]

theorem takeCard_offline {sl : SlotNo} (hm : s.mapped st sl = some c) (hg : (s.chamber c).config = some g)
    (hacc : s.access c = .offline) : takeCard (some st) sl n s =
      if (s.station st).node = .online then postCommand c (.deny .noChamber) s else s := by
  simp [takeCard, hm, hg, hacc]

theorem takeCard_denied {sl : SlotNo} (hm : s.mapped st sl = some c) (hg : (s.chamber c).config = some g)
    (hacc : s.access c ≠ .offline) {d : DenyCode} (hd : s.decide st c g n = .denied d) :
    takeCard (some st) sl n s = refuse c n d s := by
  simp [takeCard, hm, hg, hacc, hd]

theorem refuse_of_ne_lost {d : DenyCode} (h : d ≠ .lost) : refuse c n d s = postCommand c (.deny d) s := if_neg h

theorem refuse_lost : refuse c n .lost s = postWith (.alarm .lostCardSeen c) n 0 (postCommand c (.deny .lost) s) := by
  simp [refuse]

theorem mapped_heard (a : AddrNo) (sl : SlotNo) : (heard a s).mapped st sl = s.mapped st sl := by
  rw [State.mapped, heard_ret]; rfl

theorem chamber_heard (a : AddrNo) : (heard a s).chamber c = s.chamber c := by
  rw [State.chamber, heard_ret]; rfl

theorem access_heard (a : AddrNo) : (heard a s).access c = s.access c := by
  rw [State.access, chamber_heard]; rfl

theorem station_heard (a : AddrNo) : (heard a s).station st = s.station st := by
  rw [State.station, heard_ret]; rfl

/-- A presentation at an OFFLINE chamber is answered NO_CHAMBER where its station is ONLINE (R80). -/
theorem takeCard_heard_offline {a : AddrNo} {sl : SlotNo} (hm : s.mapped st sl = some c)
    (hg : (s.chamber c).config = some g) (hacc : s.access c = .offline) : takeCard (some st) sl n (heard a s) =
      if (s.station st).node = .online then postCommand c (.deny .noChamber) (heard a s) else heard a s := by
  rw [takeCard_offline ((mapped_heard ..).trans hm) ((congrArg Chamber.config (chamber_heard a)).trans hg)
    ((access_heard a).trans hacc), station_heard]

/-- A presentation that a check of R81 refuses is refused as R83 says. -/
theorem takeCard_heard_denied {a : AddrNo} {sl : SlotNo} (hm : s.mapped st sl = some c)
    (hg : (s.chamber c).config = some g) (hacc : s.access c ≠ .offline) {d : DenyCode}
    (hd : s.decide st c g n = .denied d) : takeCard (some st) sl n (heard a s) = refuse c n d (heard a s) :=
  takeCard_denied ((mapped_heard ..).trans hm) ((congrArg Chamber.config (chamber_heard a)).trans hg)
    ((access_heard a).trans_ne hacc) ((decide_of_ret (heard_ret a s) st c g n).trans hd)

end

/-- Settles O40: the read-out hands the presentation to the decision, whose first failing check gives the code, and a refusal
other than LOST posts its DENY alone. -/
theorem cardRefusalsPostTheFirstFailure : Obligations.CardRefusalsPostTheFirstFailure := by
  intro s a sl n hv ht run denies
  have htaken : run = .next (endTurn a true (takeCard (s.handedStation a) sl n (heard a s))) := exec_cardRead hv ht sl n
  refine ⟨fun hst => by rw [htaken, hst]; rfl, fun st hst => ?_⟩
  rw [hst] at htaken
  refine ⟨fun hm => ?place, fun c g hm hg => ⟨fun hoff hnode => ?gone, fun hoff hnode => ?offline, fun hacc => ?checks⟩⟩
  case place => rw [htaken, takeCard_unmapped ((mapped_heard ..).trans hm)]
  case gone => rw [htaken, takeCard_heard_offline hm hg hoff, if_neg hnode]
  case offline => exact htaken.trans (by rw [takeCard_heard_offline hm hg hoff, if_pos hnode])
  case checks =>
    have hrefused {d : DenyCode} (hd : s.decide st c g n = .denied d) :
        run = .next (endTurn a true (refuse c n d (heard a s))) :=
      htaken.trans (by rw [takeCard_heard_denied hm hg hacc hd])
    have hdenied {d : DenyCode} (hd : s.decide st c g n = .denied d) (hlost : d ≠ .lost) : denies c d :=
      (hrefused hd).trans (by rw [refuse_of_ne_lost hlost])
    refine ⟨fun h => hdenied (decide_unknownCard h) nofun, fun k hn hk => ?resident, fun kind rights account hadm => ?admitted⟩
    case resident =>
      refine ⟨fun h => ?lost, fun h => ?suspended, fun h ⟨set, hset, hout⟩ => ?wrongStation⟩
      case lost => rw [hrefused (decide_lost hn hk h), refuse_lost]
      case suspended => exact hdenied (decide_suspended hn hk h) nofun
      case wrongStation => exact hdenied (decide_wrongStation hn hk h hset hout) nofun
    case admitted =>
      have hchecks {d : DenyCode} (hd : s.decideFrom4 c g rights kind account = .denied d) (hlost : d ≠ .lost) :
          denies c d := hdenied ((decide_of_admits hadm c g).trans hd) hlost
      intro noRight inState spent
      have hright (h : ¬ noRight) : rights.getLsbD g.fraction.code = true := Bool.eq_true_of_not_eq_false h
      refine ⟨fun h => ?noRight, fun hr h => ?unused, fun hr h => ?closed, fun hr hacct => ?pastAccount⟩
      case noRight => exact hchecks (decideFrom4_noRight h) nofun
      case unused => exact hchecks (decideFrom4_noAccount (hright hr) h) nofun
      case closed => exact hchecks (decideFrom4_accountClosed (hright hr) h) nofun
      case pastAccount =>
        obtain ⟨hrefusal, hopened⟩ := decideFrom4_past_account (c := c) (kind := kind) (hright hr) hacct
        have hstate {d : DenyCode} (h : (s.access c).refusal = some d) (hlost : d ≠ .lost) : denies c d :=
          hchecks (hrefusal d h) hlost
        refine ⟨fun h => ?full, fun h => ?emptying, fun h => ?blocked, fun h => ?opened⟩
        case full => exact hstate (by rw [h]; rfl) nofun
        case emptying => exact hstate (by obtain h | h | h := h <;> rw [h] <;> rfl) nofun
        case blocked => exact hstate (by rw [h]; rfl) nofun
        case opened =>
          obtain ⟨hbusy, hspent, hfull⟩ := hopened h
          exact ⟨fun hs => hchecks (hbusy hs) nofun, fun hs hp => hchecks (hspent hs hp) nofun,
            fun hs hp hroom => hchecks (hfull hs hp hroom) nofun⟩

end Sys2Proof.Machine
end

section
/-! PROOFS. What the laws of the journal read of a state (R99, R102), and which operations leave that as it stands. -/

namespace Sys2Proof.Machine

/-! ## What the two laws read -/

/-- What the laws of the journal read of a state: the sequence numbers of the records from head to tail, the next sequence
number, and the number of open sessions. -/
structure Ledger where
  sequences : List (BitVec 32)
  next      : BitVec 32
  sessions  : Nat

/-- The ledger of a state. -/
def ledger (s : State) : Ledger where
  sequences := s.ret.journal.map (·.sequence)
  next := s.ret.nextSeq
  sessions := s.openSessions

/-- The sequence numbers are gapless up to the next one (R99), and records and sessions stay within the room (R102). -/
structure Ledger.Sound (l : Ledger) : Prop where
  gapless : ∀ (i : Nat) (h : i < l.sequences.length),
    l.sequences[i] + BitVec.ofNat 32 (l.sequences.length - i) = l.next
  room    : l.sequences.length + l.sessions ≤ Config.journalRoom

theorem sequenceLaw_and_roomLaw_iff {s : State} : SequenceLaw s ∧ RoomLaw s ↔ (Known s → (ledger s).Sound) := by
  constructor
  · rintro ⟨hseq, hroom⟩ hk
    exact ⟨by simpa [ledger] using hseq hk, by simpa [ledger, State.roomTaken, Config.journalRoom] using hroom hk⟩
  · refine fun h => ⟨fun hk => ?_, fun hk => ?_⟩
    · simpa [ledger] using (h hk).gapless
    · simpa [ledger, State.roomTaken, Config.journalRoom] using (h hk).room

/-! ## Updates that leave the ledger -/

section
variable (s : State) (c : ChamberNo) (st : StationNo) (a : AddrNo)

theorem ledger_of_ret {s t : State} (h : t.ret = s.ret) : ledger t = ledger s := by
  simp only [ledger, State.openSessions, h]

theorem ledger_of_listFree {s t : State} (h : listFree s = listFree t) : ledger s = ledger t :=
  show ledger (listFree s) = ledger (listFree t) from congrArg ledger h

/-- Sessions open at the same chambers give the same ledger. -/
theorem ledger_of_sessions {s t : State} (hj : t.ret.journal = s.ret.journal) (hn : t.ret.nextSeq = s.ret.nextSeq)
    (hs : ∀ c, (t.session c).isSome = (s.session c).isSome) : ledger t = ledger s := by
  have hq : t.openSessions = s.openSessions := countWhere_congr hs
  simp only [ledger, hj, hn, hq]

@[simp] theorem ledger_ite (p : Prop) [Decidable p] (x y : State) :
    ledger (if p then x else y) = if p then ledger x else ledger y := apply_ite ledger p x y

@[simp] theorem ledger_eachOf {α : Type} (l : List α) (f : α → State → State)
    (h : ∀ x s, ledger (f x s) = ledger s) (s : State) : ledger (eachOf l f s) = ledger s := by
  induction l generalizing s with
  | nil => rfl
  | cons x l ih => exact (ih (f x s)).trans (h x s)

@[simp] theorem ledger_onHost (f : HostLink → HostLink) : ledger (s.onHost f) = ledger s := rfl
@[simp] theorem ledger_onLine (f : Line → Line) : ledger (s.onLine f) = ledger s := rfl
@[simp] theorem ledger_onPower (f : Power → Power) : ledger (s.onPower f) = ledger s := rfl
@[simp] theorem ledger_onCensus (f : Census → Census) : ledger (s.onCensus f) = ledger s := rfl
@[simp] theorem ledger_onChamber (f : Chamber → Chamber) : ledger (s.onChamber c f) = ledger s := rfl
@[simp] theorem ledger_onEstimate (f : Estimate → Estimate) : ledger (s.onEstimate c f) = ledger s := rfl
@[simp] theorem ledger_onStation (f : Station → Station) : ledger (s.onStation st f) = ledger s := rfl
@[simp] theorem ledger_onClock (f : Clock → Clock) : ledger (s.onClock f) = ledger s := rfl
@[simp] theorem ledger_setVisits (v : Vector (Option Visit) 4) : ledger (s.setVisits v) = ledger s := rfl
@[simp] theorem ledger_setMapped (sl : SlotNo) (o : Option ChamberNo) : ledger (s.setMapped st sl o) = ledger s := rfl
@[simp] theorem ledger_setSlot (x : CommandSlot) : ledger (s.setSlot c x) = ledger s := rfl
@[simp] theorem ledger_setPosting (l : List ChamberNo) : ledger (s.setPosting l) = ledger s := rfl
@[simp] theorem ledger_setReturn (d : Option Deadline) : ledger (s.setReturn c d) = ledger s := rfl
@[simp] theorem ledger_setEntry (o : Option LineEntry) : ledger (s.setEntry a o) = ledger s := rfl
@[simp] theorem ledger_setTurn (t : Option Turn) : ledger (s.setTurn t) = ledger s := rfl
@[simp] theorem ledger_setInflight (o : Option Inflight) : ledger (s.setInflight st o) = ledger s := rfl
@[simp] theorem ledger_post (k : Key) : ledger (post k s) = ledger s := rfl
@[simp] theorem ledger_postWith (k : Key) (n : CardNo) (x : Serial) : ledger (postWith k n x s) = ledger s := rfl
@[simp] theorem ledger_alarm (t : AlarmType) : ledger (alarm t c s) = ledger s := rfl
@[simp] theorem ledger_postNode (x : Serial) : ledger (postNode a x s) = ledger s := rfl
@[simp] theorem ledger_passTo (d : Deadline) : ledger (passTo d s) = ledger s := rfl

/-! ## Access states, the round list and the estimates leave the ledger -/

@[simp] theorem ledger_setAccess (x : Access) : ledger (setAccess c x s) = ledger s := ledger_of_listFree (by simp)
@[simp] theorem ledger_rewriteEntry (f : Entry → Entry) : ledger (rewriteEntry c f s) = ledger s :=
  ledger_of_listFree (by simp)
@[simp] theorem ledger_changeRound (l : List Entry) : ledger (changeRound l s) = ledger s := ledger_of_listFree (by simp)
@[simp] theorem ledger_setCandidate (b : Bool) : ledger (setCandidate c b s) = ledger s := ledger_of_listFree (by simp)
@[simp] theorem ledger_removeEntry : ledger (removeEntry c s) = ledger s := ledger_of_listFree (by simp)
@[simp] theorem ledger_promote : ledger (promote c s) = ledger s := ledger_of_listFree (by simp)
@[simp] theorem ledger_entryWaits (b : Bool) : ledger (entryWaits c b s) = ledger s := ledger_of_listFree (by simp)
@[simp] theorem ledger_entryInVisit : ledger (entryInVisit c st s) = ledger s := ledger_of_listFree (by simp)
@[simp] theorem ledger_makeEntry (u : Urgency) (b : Bool) : ledger (makeEntry c u b s) = ledger s :=
  ledger_of_listFree (by simp)
@[simp] theorem ledger_evaluate : ledger (evaluate c s) = ledger s := ledger_of_listFree (by simp)
@[simp] theorem ledger_depositStep : ledger (depositStep c s) = ledger s := ledger_of_listFree (by simp)
@[simp] theorem ledger_takeMiss : ledger (takeMiss c s) = ledger s := ledger_of_listFree (by simp)
@[simp] theorem ledger_takeReading (t q : Nat) (x : Int) : ledger (takeReading c t q x s) = ledger s :=
  ledger_of_listFree (by simp)
@[simp] theorem ledger_requestSweep : ledger (requestSweep s) = ledger s := ledger_of_listFree (by simp)
@[simp] theorem ledger_disturb : ledger (disturb c s) = ledger s := rfl
@[simp] theorem ledger_dropOwed : ledger (dropOwed c s) = ledger s := rfl

/-! ## Slots and visits leave the ledger -/

@[simp] theorem ledger_abandonTurn (p : TurnKind → Bool) : ledger (abandonTurn p s) = ledger s := by
  rcases abandonTurn_cases s p with h | h <;> simp [h]
@[simp] theorem ledger_dropPending : ledger (dropPending c s) = ledger s := rfl
@[simp] theorem ledger_postCommand (x : Command) : ledger (postCommand c x s) = ledger s :=
  ledger_of_ret (postCommand_step s c x).ret
@[simp] theorem ledger_removePending (p : Command → Bool) : ledger (removePending p c s) = ledger s :=
  ledger_of_ret (removePending_step s c p).ret
@[simp] theorem ledger_clearSlot : ledger (clearSlot c s) = ledger s := by simp [clearSlot]
@[simp] theorem ledger_setPhaseAt (p : Fin 4) (ph : Phase) : ledger (setPhaseAt p c ph s) = ledger s := by
  unfold setPhaseAt; split <;> rfl
@[simp] theorem ledger_setPhase (ph : Phase) : ledger (setPhase c ph s) = ledger s := by
  unfold setPhase; split <;> simp
@[simp] theorem ledger_closeInvolved (i : Involved) : ledger (closeInvolved i s) = ledger s := by
  unfold closeInvolved; cases i.phase <;> simp
@[simp] theorem ledger_closeVisit (p : Fin 4) (o : VisitOutcome) : ledger (closeVisit p o s) = ledger s := by
  unfold closeVisit; split
  · rfl
  · exact ledger_eachOf _ closeInvolved (fun i s => ledger_closeInvolved s i) s
@[simp] theorem ledger_checkComplete (p : Fin 4) : ledger (checkComplete p s) = ledger s := by
  unfold checkComplete; split <;> simp
theorem ledger_finishPhase (ph : Phase) {f : State → State} (h : ∀ t, ledger (f t) = ledger t) :
    ledger (finishPhase c ph f s) = ledger s := by
  unfold finishPhase; split <;> simp [h]
@[simp] theorem ledger_visitLeft : ledger (visitLeft st s) = ledger s := by
  unfold visitLeft; repeat' split
  all_goals simp
@[simp] theorem ledger_changePower (p : PowerState) (k : PowerCause) : ledger (changePower p k s) = ledger s := rfl
@[simp] theorem ledger_setQuiet : ledger (setQuiet s) = ledger s := rfl
@[simp] theorem ledger_abandonPreparation (k : PowerCause) : ledger (abandonPreparation k s) = ledger s := by
  simp [abandonPreparation]
@[simp] theorem ledger_involve : ledger (involve st c s) = ledger s := by simp [involve]
@[simp] theorem ledger_openVisit (p : Fin 4) (n : CardNo) (m : VisitMode) : ledger (openVisit p st n m s) = ledger s := by
  simp [openVisit]
@[simp] theorem ledger_takeCrew (n : CardNo) (m : VisitMode) : ledger (takeCrew st c n m s) = ledger s := by
  unfold takeCrew; repeat' split
  all_goals simp

/-! ## Accounts, cards, refusals, lifts and emptying leave the ledger -/

@[simp] theorem ledger_settleAccount (x : Session) (o : Option JournalOutcome) :
    ledger (settleAccount x o s) = ledger s := by
  unfold settleAccount; split <;> rfl
@[simp] theorem ledger_countDeposit (o : Option JournalOutcome) : ledger (countDeposit c o s) = ledger s := by
  unfold countDeposit; split <;> simp
@[simp] theorem ledger_endDrain : ledger (endDrain c s) = ledger s := by simp [endDrain]
@[simp] theorem ledger_useCard (n : CardNo) : ledger (useCard n st s) = ledger s := rfl
@[simp] theorem ledger_reserve (g : Grant) : ledger (reserve g s) = ledger s := by
  unfold reserve; split <;> rfl
@[simp] theorem ledger_refuse (n : CardNo) (d : DenyCode) : ledger (refuse c n d s) = ledger s := by simp [refuse]
@[simp] theorem ledger_markLift : ledger (markLift c s) = ledger s := rfl
@[simp] theorem ledger_ensureReturn : ledger (ensureReturn c s) = ledger s := by simp [ensureReturn]
@[simp] theorem ledger_openByFill : ledger (openByFill c s) = ledger s := by simp [openByFill]
@[simp] theorem ledger_returnToService : ledger (returnToService c s) = ledger s := by
  unfold returnToService; split <;> simp
@[simp] theorem ledger_emptyChamber : ledger (emptyChamber c s) = ledger s := by simp [emptyChamber]
@[simp] theorem ledger_visitEmptied (p : Fin 4) : ledger (visitEmptied c p s) = ledger s := by
  unfold visitEmptied; split <;> simp
@[simp] theorem ledger_emptied : ledger (emptied c s) = ledger s := by simp [emptied]
@[simp] theorem ledger_takeIn : ledger (takeIn c s) = ledger s := by
  unfold takeIn; split <;> simp
@[simp] theorem ledger_lockEnded (b : Bool) : ledger (lockEnded c b s) = ledger s := by
  unfold lockEnded; split
  · simp [ledger_finishPhase]
  all_goals simp
@[simp] theorem ledger_releaseEnded (b : Bool) : ledger (releaseEnded c b s) = ledger s := by simp [releaseEnded]
@[simp] theorem ledger_returnPassed : ledger (returnPassed c s) = ledger s := by
  unfold returnPassed; split
  · exact (ledger_finishPhase _ _ _ fun _ => rfl).trans (by simp)
  all_goals simp

/-! ## Measurements, the line and the census leave the ledger -/

@[simp] theorem ledger_endDisturbed : ledger (endDisturbed c s) = ledger s := by simp [endDisturbed]
@[simp] theorem ledger_measureEnded (b : Bool) : ledger (measureEnded st b s) = ledger s := by
  unfold measureEnded; split <;> simp
@[simp] theorem ledger_takeEcho (o : Option StationNo) (sl : SlotNo) (t q : Nat) (x : Int) :
    ledger (takeEcho o sl t q x s) = ledger s := by
  unfold takeEcho; repeat' split
  all_goals simp
@[simp] theorem ledger_measureTimedOut (r : Inflight) : ledger (measureTimedOut st r s) = ledger s := by
  simp [measureTimedOut]
@[simp] theorem ledger_clearInflight : ledger (clearInflight st s) = ledger s := by simp [clearInflight]
@[simp] theorem ledger_moveTimeouts : ledger (moveTimeouts s) = ledger s := rfl

/-- A change of an open session leaves the ledger. -/
theorem ledger_setSession_open {x : Session} (hx : s.session c = some x) (y : Session) :
    ledger (s.setSession c (some y)) = ledger s := by
  refine ledger_of_sessions rfl rfl fun d => ?_
  rw [State.session_setSession]
  split
  · next hd => rw [hd, hx]; rfl
  · rfl

@[simp] theorem ledger_moveGuards : ledger (moveGuards s) = ledger s := by
  refine ledger_of_sessions rfl rfl fun c => ?_
  simp only [moveGuards, State.session, State.onRet_ret, look_mapAll, Option.isSome_map]

@[simp] theorem ledger_startTurn (k : TurnKind) (f : List Byte) : ledger (startTurn k f s) = ledger s := rfl
@[simp] theorem ledger_withhold : ledger (withhold a s) = ledger s := rfl
@[simp] theorem ledger_removeAddress : ledger (removeAddress a s) = ledger s := by simp [removeAddress]
@[simp] theorem ledger_releaseNode (x : Serial) : ledger (releaseNode a x s) = ledger s := by simp [releaseNode]
@[simp] theorem ledger_freeLine : ledger (freeLine s) = ledger s := rfl
@[simp] theorem ledger_enterPreparing (k : PowerCause) : ledger (enterPreparing k s) = ledger s := by
  simp [enterPreparing]
@[simp] theorem ledger_wake (k : PowerCause) : ledger (wake k s) = ledger s := rfl
@[simp] theorem ledger_requestCensus : ledger (requestCensus s) = ledger s := rfl
@[simp] theorem ledger_endCensus : ledger (endCensus s) = ledger s := by simp [endCensus]
@[simp] theorem ledger_reconcileChamber (v : Vector SlotReport 4) : ledger (reconcileChamber st v c s) = ledger s := by
  unfold reconcileChamber; dsimp only; repeat' split
  all_goals simp
@[simp] theorem ledger_bringOnline (x : StatusAnswer) : ledger (bringOnline a st x s) = ledger s := by
  simp [bringOnline]
@[simp] theorem ledger_nextStep (k : CensusStep) : ledger (nextStep k s) = ledger s := rfl
@[simp] theorem ledger_statusAnswered (x : StatusAnswer) : ledger (statusAnswered a x s) = ledger s := by
  unfold statusAnswered; split <;> simp
@[simp] theorem ledger_statusFailed : ledger (statusFailed a s) = ledger s := by simp [statusFailed]
@[simp] theorem ledger_bindingAnswered (x : StatusAnswer) : ledger (bindingAnswered a st x s) = ledger s := by
  simp [bindingAnswered]
@[simp] theorem ledger_bindingFailed (x : Serial) : ledger (bindingFailed a x s) = ledger s := by simp [bindingFailed]
@[simp] theorem ledger_assignAnswered (x : Serial) : ledger (assignAnswered a x s) = ledger s := rfl
@[simp] theorem ledger_assignFailed : ledger (assignFailed a s) = ledger s := by simp [assignFailed]
@[simp] theorem ledger_takeQuery (b : Bool) (w : Byte) : ledger (takeQuery b w s) = ledger s := by
  unfold takeQuery; dsimp only; repeat' split
  all_goals simp
theorem ledger_pickFree {α : Type} (l : List α) : ledger (pickFree l s).2 = ledger s := by
  unfold pickFree; split <;> rfl

/-! ## The arbiter and the transmitter leave the ledger -/

@[simp] theorem ledger_sendPending (sl : SlotNo) (x : Command) : ledger (sendPending c a sl x s) = ledger s := by
  unfold sendPending; dsimp only
  rw [ledger_startTurn]
  split
  · next y hy => rw [ledger_ite, ledger_setSession_open _ c hy, ite_self]; rfl
  · rfl
@[simp] theorem ledger_servePosting (l : List ChamberNo) : ledger (servePosting l s) = ledger s := by
  induction l generalizing s with
  | nil => rfl
  | cons d l ih => unfold servePosting; split <;> simp [ih]
@[simp] theorem ledger_choiceCommand : ledger (choiceCommand s) = ledger s := by
  unfold choiceCommand; split
  · rfl
  · simp
@[simp] theorem ledger_choiceQuery : ledger (choiceQuery s) = ledger s := by simp [choiceQuery, startQuery]
@[simp] theorem ledger_startStep : ledger (startStep s) = ledger s := by
  unfold startStep; dsimp only; split <;> rfl
@[simp] theorem ledger_choiceCensus : ledger (choiceCensus s) = ledger s := by
  have h := ledger_pickFree s s.bindingsPending
  unfold choiceCensus; split
  · next heq => rw [heq] at h; exact h
  · next heq =>
    rw [heq] at h
    split
    · exact h
    · exact h
    · simpa using h
@[simp] theorem ledger_choiceMeasure : ledger (choiceMeasure s) = ledger s := by
  unfold choiceMeasure; repeat' split
  all_goals rfl
@[simp] theorem ledger_choiceLast : ledger (choiceLast s) = ledger s := by simp [choiceLast, startQuery]
@[simp] theorem ledger_orElseTurn (f : State → State) (h : ∀ s, ledger (f s) = ledger s) :
    ledger (orElseTurn f s) = ledger s := by simp [orElseTurn, h]
@[simp] theorem ledger_arbitrate : ledger (arbitrate s) = ledger s := by
  unfold arbitrate; repeat' split
  all_goals simp [choose]
@[simp] theorem ledger_kickTx : ledger (kickTx s) = ledger s := by
  obtain ⟨busy, outbox, tx, h, -⟩ := kickTx_spec s
  rw [h]; rfl
@[simp] theorem ledger_settle : ledger (settle s) = ledger s := by simp [settle]

/-! ## Requests on cards, chambers, stations, lists, the line and the site leave the ledger -/

@[simp] theorem ledger_placeConfig (g : ChamberConfig) : ledger (placeConfig c g s) = ledger s := by
  unfold placeConfig; dsimp only; split <;> simp
@[simp] theorem ledger_settleAccess (g : ChamberConfig) : ledger (settleAccess c g s) = ledger s := by
  simp [settleAccess]
@[simp] theorem ledger_configure (g : ChamberConfig) : ledger (configure c g s) = ledger s := by simp [configure]
@[simp] theorem ledger_unconfigure (g : ChamberConfig) : ledger (unconfigure c g s) = ledger s := by
  simp [unconfigure]
@[simp] theorem ledger_dropBindingOf : ledger (dropBindingOf st s) = ledger s := by
  unfold dropBindingOf; split <;> simp
@[simp] theorem ledger_bindAddressed (n : Serial) : ledger (bindAddressed st n s) = ledger s := by
  unfold bindAddressed; split <;> simp
@[simp] theorem ledger_forceEntry (u : Urgency) : ledger (forceEntry c u s) = ledger s := by simp [forceEntry]
@[simp] theorem ledger_addEntry (u : Urgency) : ledger (addEntry c u s) = ledger s := by simp [addEntry]
@[simp] theorem ledger_resetTurns : ledger (resetTurns s) = ledger s := rfl
@[simp] theorem ledger_resetChambers : ledger (resetChambers s) = ledger s := by simp [resetChambers]
@[simp] theorem ledger_expireVisits (n : Nat) : ledger (expireVisits n s) = ledger s := by
  induction n generalizing s with
  | zero => rfl
  | succ n ih =>
    have h := ledger_pickFree s ((indexes 4).filter fun p => (look s.ret.visits p).isSome)
    unfold expireVisits; split
    · next heq => rw [heq] at h; simpa [ih] using h
    · next heq => rw [heq] at h; exact h
@[simp] theorem ledger_resetTable : ledger (resetTable s) = ledger s := rfl
@[simp] theorem ledger_resetPower : ledger (resetPower s) = ledger s := by
  unfold resetPower; split <;> rfl
@[simp] theorem ledger_resetFollow : ledger (resetFollow s) = ledger s := by
  unfold resetFollow; dsimp only; split <;> rfl
@[simp] theorem ledger_resetNotices (old : Vector (Option LineEntry) 16) : ledger (resetNotices old s) = ledger s := by
  unfold resetNotices
  rw [ledger_eachOf _ _ (fun a s => by split <;> rfl)]
  simp
@[simp] theorem ledger_quietWritten : ledger (quietWritten s) = ledger s := by simp [quietWritten]
@[simp] theorem ledger_writeSite (f : SiteFields) (x : FractionSet) : ledger (writeSite f x s) = ledger s := by
  have hw : ∀ t : State, ledger (t.onRet fun r => { r with settings := writeSettings f x r.settings }) = ledger t :=
    fun _ => rfl
  simp [writeSite, hw]

end

end Sys2Proof.Machine
end

section
/-! PROOFS. Opening and closing a session and releasing records keep the journal's ledger sound (R99, R102), and so do the
reports, the ends of transactions and the deadlines that bring them about. -/

namespace Sys2Proof.Machine

/-! ## The three changes of a ledger -/

/-- The ledger once one more record stands at the tail (R99). -/
def Ledger.recorded (l : Ledger) : Ledger := { l with sequences := l.sequences ++ [l.next], next := l.next + 1 }

/-- The ledger once a session is closed: with an outcome it leaves a record, with none it leaves nothing (R85). -/
def Ledger.closed (o : Option JournalOutcome) (l : Ledger) : Ledger :=
  if o.isSome then Ledger.recorded { l with sessions := l.sessions - 1 } else { l with sessions := l.sessions - 1 }

/-- The ledger once a session is opened. -/
def Ledger.opened (l : Ledger) : Ledger := { l with sessions := l.sessions + 1 }

/-- The ledger once the oldest `n` records are removed (R104). -/
def Ledger.released (n : Nat) (l : Ledger) : Ledger := { l with sequences := l.sequences.drop n }

namespace Ledger.Sound
variable {l : Ledger} (h : l.Sound)
include h

/-- The record takes the room that its session held (R102). -/
theorem closed (hpos : 0 < l.sessions) (o : Option JournalOutcome) : (l.closed o).Sound := by
  have hroom := h.room
  unfold Ledger.closed
  split
  case isFalse => exact ⟨h.gapless, by dsimp only; omega⟩
  case isTrue =>
    refine ⟨fun i hi => ?gapless, ?room⟩
    case gapless =>
      simp only [Ledger.recorded, List.length_append, List.length_singleton] at hi ⊢
      rcases Nat.lt_succ_iff_lt_or_eq.1 hi with hlt | rfl
      · rw [List.getElem_append_left hlt, ← h.gapless i hlt, Nat.sub_add_comm hlt.le, BitVec.ofNat_add, BitVec.add_assoc]
        rfl
      · simp
    case room =>
      simp only [Ledger.recorded, List.length_append, List.length_singleton]
      omega

theorem opened (hroom : l.sequences.length + l.sessions < Config.journalRoom) : l.opened.Sound :=
  ⟨h.gapless, hroom⟩

theorem released (n : Nat) : (l.released n).Sound := by
  refine ⟨fun i hi => ?gapless, ?room⟩
  case gapless =>
    simp only [Ledger.released, List.length_drop] at hi ⊢
    rw [List.getElem_drop, ← h.gapless (n + i) (by omega), Nat.sub_add_eq]
  case room =>
    have hroom := h.room
    simp only [Ledger.released, List.length_drop]
    omega

end Ledger.Sound

/-! ## Sessions and records that come and go -/

section
variable (s : State) (c : ChamberNo) (st : StationNo)

theorem ledger_appendRecord (r : JournalRecord) : ledger (appendRecord r s) = (ledger s).recorded := by
  have h : ledger (s.onRet fun d =>
      { d with journal := d.journal ++ [{ r with sequence := d.nextSeq }], nextSeq := d.nextSeq + 1 }) =
      (ledger s).recorded := by
    simp [ledger, Ledger.recorded, State.openSessions]
  unfold appendRecord
  dsimp only
  rw [ledger_ite, ledger_post, ite_self, h]

theorem ledger_settleJournal (x : Session) (o : Option JournalOutcome) :
    ledger (settleJournal c x o s) = if o.isSome then (ledger s).recorded else ledger s := by
  unfold settleJournal
  split
  · exact ledger_appendRecord ..
  · simp

theorem ledger_setSession (o : Option Session) : ledger (s.setSession c o) =
    { ledger s with sessions :=
        s.openSessions - (if (s.session c).isSome then 1 else 0) + if o.isSome then 1 else 0 } :=
  congrArg (fun n => { ledger s with sessions := n }) (countWhere_put ..)

theorem ledger_closeSession {x : Session} (hx : s.session c = some x) (o : Option JournalOutcome) (drain : Bool) :
    ledger (closeSession c o drain s) = (ledger s).closed o := by
  have hnone : ledger (s.setSession c none) = { ledger s with sessions := (ledger s).sessions - 1 } := by
    rw [ledger_setSession, hx]; rfl
  unfold closeSession
  simp [hx, ledger_settleJournal, hnone, Ledger.closed]

theorem openSessions_pos {x : Session} (hx : s.session c = some x) : 0 < s.openSessions := by
  rw [State.openSessions, countWhere_eq_indexes, List.countP_pos_iff]
  exact ⟨c, List.mem_finRange c, Option.isSome_of_eq_some hx⟩

theorem ledger_grant (h : s.session c = none) (g : ChamberConfig) (n : CardNo) (x : Grant) :
    ledger (grant st c g n x s) = (ledger s).opened := by
  have hsome : ledger (s.setSession c (some (newSession n x g.window s))) = (ledger s).opened := by
    rw [ledger_setSession, h]; rfl
  simp [grant, hsome]

@[simp] theorem ledger_releaseRecords (n : Nat) : ledger (releaseRecords n s) = (ledger s).released n := by
  have h : ledger (s.onRet fun r => { r with journal := r.journal.drop n }) = (ledger s).released n := by
    simp [ledger, Ledger.released, State.openSessions]
  simp [releaseRecords, h]

end

/-- A presentation that is granted has passed the checks from the fourth on (R81). -/
theorem exists_decideFrom4_of_granted {s : State} {st : StationNo} {c : ChamberNo} {g : ChamberConfig} {n : CardNo}
    {x : Grant} (h : s.decide st c g n = .granted x) :
    ∃ rights kind account, s.decideFrom4 c g rights kind account = .granted x := by
  unfold State.decide at h
  split at h
  · cases h
  split at h
  case h_1 => cases h
  case h_2 => cases h
  case h_3 =>
    split at h
    · cases h
    · cases h
    split at h
    · cases h
    · exact ⟨_, _, _, h⟩
  case h_4 => exact ⟨_, _, _, h⟩

/-- A presentation is granted while the journal has room alone (R81, check 9). -/
theorem roomTaken_lt_of_granted {s : State} {st : StationNo} {c : ChamberNo} {g : ChamberConfig} {n : CardNo} {x : Grant}
    (h : s.decide st c g n = .granted x) : s.roomTaken < Config.journalRoom := by
  obtain ⟨rights, kind, account, h⟩ := exists_decideFrom4_of_granted h
  by_contra hroom
  unfold State.decideFrom4 at h
  simp only [hroom, decide_false, Bool.not_false, if_true] at h
  repeat' split at h
  all_goals cases h

/-! ## Presentations, reports and lifts -/

theorem sound_ite {p : Prop} [Decidable p] {x y : State} (hx : (ledger x).Sound) (hy : (ledger y).Sound) :
    (ledger (if p then x else y)).Sound := by
  split
  · exact hx
  · exact hy

theorem sound_eachOf {α : Type} {f : α → State → State} (hf : ∀ x s, (ledger s).Sound → (ledger (f x s)).Sound)
    (l : List α) {s : State} (h : (ledger s).Sound) : (ledger (eachOf l f s)).Sound := by
  induction l generalizing s with
  | nil => exact h
  | cons x l ih => exact ih (hf x s h)

section
variable {s : State} (h : (ledger s).Sound) (c : ChamberNo) (st : StationNo) (a : AddrNo)
include h

@[simp] theorem sound_closeSession (o : Option JournalOutcome) (drain : Bool) :
    (ledger (closeSession c o drain s)).Sound := by
  cases hx : s.session c with
  | none => simpa only [closeSession, hx] using h
  | some x => rw [ledger_closeSession s c hx]; exact h.closed (openSessions_pos s c hx) o

theorem sound_takeCard (o : Option StationNo) (sl : SlotNo) (n : CardNo) : (ledger (takeCard o sl n s)).Sound := by
  unfold takeCard
  split
  · exact h
  split
  · exact h
  split
  · exact h
  split
  · simpa using h
  split
  · next x hx =>
    rw [ledger_grant _ _ _ (session_eq_none_of_granted hx)]
    refine h.opened ?_
    rw [ledger, List.length_map]
    exact roomTaken_lt_of_granted hx
  all_goals simpa using h

theorem sound_takeHatch (o : Option StationNo) (sl : SlotNo) (r : Byte) : (ledger (takeHatch o sl r s)).Sound := by
  unfold takeHatch; repeat' split
  all_goals simp only [h, sound_closeSession]

theorem sound_liftEarly : (ledger (liftEarly c s)).Sound := by simp [liftEarly, h]

theorem sound_liftUnscheduled : (ledger (liftUnscheduled c s)).Sound := by simp [liftUnscheduled, h]

theorem sound_takeOut : (ledger (takeOut c s)).Sound := by
  unfold takeOut; split
  · exact sound_liftUnscheduled h c
  · exact sound_liftUnscheduled h c
  · exact sound_liftEarly h c
  · simpa [liftLocked] using h
  · simpa [liftBlocked] using h
  · exact h

theorem sound_takeLift (o : Option StationNo) (sl : SlotNo) (r : Byte) : (ledger (takeLift o sl r s)).Sound := by
  unfold takeLift
  split
  · exact h
  split
  · exact h
  split
  · exact sound_takeOut h _
  · simpa using h

theorem sound_handOver (o : Option StationNo) (r : AttnRecord) : (ledger (handOver o r s)).Sound := by
  have hq : (ledger (if s.main.line.power.state = .active then setQuiet s else s)).Sound := by simpa using h
  cases r with
  | lift sl report => exact sound_takeLift hq _ sl report
  | hatch sl report => exact sound_takeHatch hq _ sl report
  | card sl number => exact sound_takeCard hq _ sl number
  | echo sl t q temp => simpa [handOver] using h

theorem sound_readAnswered (r : Option AttnRecord) : (ledger (readAnswered a r s)).Sound := by
  cases r with
  | none => exact h
  | some r => exact sound_handOver (s := delivered a s) h _ r

/-! ## Nodes that go, and the census -/

theorem sound_stationOut : (ledger (stationOut st s)).Sound := by
  unfold stationOut
  rw [ledger_visitLeft]
  exact sound_eachOf (fun c _ h => sound_closeSession h c _ _) _ (by simpa using h)

theorem sound_loseNode (x : Serial) : (ledger (loseNode a st x s)).Sound :=
  sound_stationOut (s := (removeAddress a s).onStation st _) (by simpa using h) st

theorem sound_takeOutEntry : (ledger (takeOutEntry a s)).Sound := by
  unfold takeOutEntry; split
  · exact h
  split
  · exact sound_loseNode h ..
  · simpa using h

theorem sound_countMiss (b : Bool) : (ledger (countMiss a b s)).Sound := by
  unfold countMiss; split
  · exact h
  dsimp only; split
  · exact sound_ite (sound_loseNode (by exact h) ..) (by exact h)
  · simpa using h

theorem sound_takeContend (b : Bool) (x : Serial) : (ledger (takeContend b x s)).Sound := by
  unfold takeContend; dsimp only; repeat' split
  all_goals simp [h, sound_takeOutEntry]

/-! ## The ends of transactions -/

theorem sound_endTurn (b : Bool) : (ledger (endTurn a b s)).Sound := by
  rw [endTurn, ledger_settle]
  exact sound_countMiss h a b

theorem sound_unlockEnded (b : Bool) : (ledger (unlockEnded c b s)).Sound := by
  unfold unlockEnded; split
  · exact h
  · next x hx =>
    refine sound_ite (sound_ite ?_ (sound_closeSession h ..)) h
    rwa [ledger_setSession_open s c hx]

theorem sound_endUnlock (b : Bool) : (ledger (endUnlock c a b s)).Sound :=
  sound_endTurn (sound_unlockEnded (by exact h) c b) a b

theorem sound_endDeny (b : Bool) : (ledger (endDeny c a b s)).Sound := sound_endTurn (by exact h) a b

theorem sound_endLock (b : Bool) : (ledger (endLock c a b s)).Sound := sound_endTurn (by simpa using h) a b

theorem sound_endRelease (b : Bool) : (ledger (endRelease c a b s)).Sound := sound_endTurn (by simpa using h) a b

theorem sound_endMeasure (b : Bool) : (ledger (endMeasure st a b s)).Sound := sound_endTurn (by simpa using h) a b

theorem sound_endAssign (b : Bool) : (ledger (endAssign a b s)).Sound := by simpa [endAssign] using h

theorem sound_endStatusFailed : (ledger (endStatusFailed a s)).Sound := sound_endTurn (by simpa using h) a false

theorem sound_endBindingFailed : (ledger (endBindingFailed a s)).Sound := by
  unfold endBindingFailed; split
  · exact sound_endTurn (by simpa using h) a false
  · exact sound_endTurn h a false

theorem sound_failTransaction : (ledger (failTransaction s)).Sound := by
  unfold failTransaction; split
  · split
    · exact sound_endUnlock h ..
    · exact sound_endDeny h ..
    · exact sound_endLock h ..
    · exact sound_endRelease h ..
    · exact h
  · exact sound_endMeasure h ..
  · exact sound_endTurn h ..
  · exact sound_endAssign h ..
  · exact sound_endStatusFailed h _
  · exact sound_endBindingFailed h _
  · exact h

theorem sound_takeExpiry : (ledger (takeExpiry s)).Sound := by
  unfold takeExpiry; split
  · exact h
  · exact sound_ite (sound_ite (sound_failTransaction h) (by exact h)) h

theorem sound_takeCommandEnd (p : Command → Bool) {f : ChamberNo → AddrNo → Bool → State → State}
    (hf : ∀ c a b, (ledger (f c a b s)).Sound) (e : TxnEnd) : (ledger (takeCommandEnd p f e s)).Sound := by
  unfold takeCommandEnd; repeat' split
  all_goals simp only [h, hf]

theorem sound_takeMeasureEnd (e : TxnEnd) : (ledger (takeMeasureEnd e s)).Sound := by
  unfold takeMeasureEnd; repeat' split
  all_goals simp only [h, sound_endMeasure]

theorem sound_takeReadEnd (e : TxnEnd) : (ledger (takeReadEnd e s)).Sound := by
  have hread : ∀ a r, (ledger (endReadAnswered a r s)).Sound := fun a r => sound_endTurn (sound_readAnswered h a r) a true
  have hfail : ∀ a, (ledger (endReadFailed a s)).Sound := fun a => sound_endTurn h a false
  unfold takeReadEnd; repeat' split
  all_goals simp only [h, hread, hfail]

theorem sound_takeAssignEnd (e : TxnEnd) : (ledger (takeAssignEnd e s)).Sound := by
  unfold takeAssignEnd; repeat' split
  all_goals simp only [h, sound_endAssign]

theorem sound_takeStatusEnd (e : StatusEnd) : (ledger (takeStatusEnd e s)).Sound := by
  have hok : ∀ a x, (ledger (endStatusAnswered a x s)).Sound := fun a x => sound_endTurn (by simpa using h) a true
  unfold takeStatusEnd; repeat' split
  all_goals simp only [h, hok, sound_endStatusFailed]

theorem sound_takeBindingEnd (e : StatusEnd) : (ledger (takeBindingEnd e s)).Sound := by
  have hok : ∀ a x, (ledger (endBindingAnswered a x s)).Sound := fun a x => by
    unfold endBindingAnswered; split
    · exact sound_endTurn (by simpa using h) a true
    · exact sound_endTurn h a true
  unfold takeBindingEnd; repeat' split
  all_goals simp only [h, hok, sound_endBindingFailed]

theorem sound_endCast (k : TurnKind) {f : State → State} (hf : (ledger (f s)).Sound) :
    (ledger (endCast k f s)).Sound := by
  exact sound_ite (by simpa using hf) h

/-! ## Deadlines and line power -/

theorem sound_guardReached : (ledger (guardReached c s)).Sound := by
  unfold guardReached; split
  · exact h
  exact sound_ite h (by rw [ledger_settle]; exact sound_closeSession (by exact h) ..)

theorem sound_visitReached : (ledger (visitReached st s)).Sound := by
  unfold visitReached; repeat' split
  all_goals simpa using h

theorem sound_returnReached : (ledger (returnReached c s)).Sound := by
  unfold returnReached; split <;> simpa using h

theorem sound_timeoutReached : (ledger (timeoutReached st s)).Sound := by
  unfold timeoutReached; repeat' split
  all_goals simpa using h

theorem sound_periodReached : (ledger (periodReached s)).Sound := by
  unfold periodReached; repeat' split
  all_goals simpa using h

theorem sound_quietReached : (ledger (quietReached s)).Sound := by
  unfold quietReached; split <;> simpa using h

theorem sound_dormantLimitReached : (ledger (dormantLimitReached s)).Sound := by
  unfold dormantLimitReached; split <;> simpa using h

theorem sound_pulseRead (n : Nat) : (ledger (pulseRead n s)).Sound := by simpa [pulseRead] using h

theorem sound_settleReached : (ledger (settleReached s)).Sound := by
  simpa [settleReached, lineSettled, requestResetCensus] using h

end

end Sys2Proof.Machine
end

section
/-! PROOFS. Every step keeps the journal's sequence numbers gapless, and records and sessions within the room (R99, R102). -/

namespace Sys2Proof.Machine

/-! ## Requests -/

section
variable {s : State} (h : (ledger s).Sound) (st : StationNo)
include h

theorem sound_unbindOnline (a : AddrNo) : (ledger (unbindOnline st a s)).Sound := by
  unfold unbindOnline
  rw [ledger_postNode]
  exact sound_stationOut (by exact h) st

theorem sound_rebind (n : Option Serial) : (ledger (rebind st n s)).Sound := by
  unfold rebind; dsimp only
  rw [ledger_arbitrate]
  split
  all_goals
    simp only [ledger_bindAddressed, ledger_onStation, ledger_dropBindingOf]
    split
    · exact sound_unbindOnline h st _
    · exact h

theorem sound_resetLine : (ledger (resetLine s)).Sound := by
  have hclosed : (ledger (resetSessions (resetChambers (resetTurns s)))).Sound :=
    sound_eachOf (fun c _ h => sound_closeSession h c _ _) _ (by simpa using h)
  simpa [resetLine] using hclosed

/-- Whatever a request does, the ledger stays sound. -/
theorem sound_act (r : Request) : (ledger (act r s).1).Sound := by
  cases r <;> simp only [act]
  case siteSet f => unfold takeSiteSet; split <;> simpa using h
  case cardPut f => unfold takeCardPut; dsimp only; repeat' split
                    all_goals exact h
  case cardAmend m f => unfold takeCardAmend; dsimp only; repeat' split
                        all_goals exact h
  case cardGet n => unfold takeCardGet; repeat' split
                    all_goals exact h
  case cardRemove n => unfold takeCardRemove; repeat' split
                       all_goals exact h
  case accountPut i f => unfold takeAccountPut; repeat' split
                         all_goals exact h
  case accountAmend i m f => unfold takeAccountAmend; repeat' split
                             all_goals exact h
  case accountGet i => unfold takeAccountGet; split <;> exact h
  case groupWrite f => unfold takeGroupWrite; dsimp only; split <;> exact h
  case classPut i f => unfold takeClassPut; split <;> exact h
  case classGet i => unfold takeClassGet; split <;> exact h
  case chamberSet b f => unfold takeChamberSet; dsimp only; repeat' split
                         all_goals simpa using h
  case chamberGet b => unfold takeChamberGet; split <;> exact h
  case chamberClear b => unfold takeChamberClear; repeat' split
                         all_goals simpa using h
  case profilePut p f => unfold takeProfilePut; repeat' split
                         all_goals exact h
  case profileGet p => unfold takeProfileGet; split <;> exact h
  case stationBind b n => unfold takeStationBind; repeat' split
                          all_goals simp only [h, sound_rebind]
  case stationGet b => unfold takeStationGet; split <;> exact h
  case roundAdd b u => unfold takeRoundAdd; repeat' split
                       all_goals simpa using h
  case roundDrop b => unfold takeRoundDrop; repeat' split
                      all_goals simpa using h
  case journalRelease n x => unfold takeJournalRelease; dsimp only; split <;> simp [h, Ledger.Sound.released]
  case lineCensus => unfold takeLineCensus; dsimp only; repeat' split
                     all_goals simpa using h
  case lineSweep => unfold takeLineSweep; dsimp only; split <;> simpa using h
  case lineDormant => unfold takeLineDormant; dsimp only; repeat' split
                      all_goals simpa using h
  case lineWake => unfold takeLineWake; dsimp only; split <;> simpa using h
  case lineReset => simpa [takeLineReset] using sound_resetLine h
  all_goals exact h

/-! ## The host link -/

theorem sound_takeHead : (ledger (takeHead s)).Sound := by
  unfold takeHead; split
  · exact sound_act h _
  · exact h

theorem sound_busyReply (kind tag : Byte) (r : Result) : (ledger (busyReply kind tag r s)).Sound := by
  simpa [busyReply] using h

theorem sound_enqueue (tag : Byte) (r : Request) : (ledger (enqueue tag r s)).Sound :=
  sound_ite (sound_ite (sound_takeHead (by exact h)) (by exact h)) (sound_busyReply h ..)

theorem sound_receive (b : Byte) : (ledger (receive b s)).Sound := by
  unfold receive takeFrame; dsimp only; split
  · rw [ledger_kickTx]; split
    · exact sound_busyReply (by exact h) ..
    · exact sound_busyReply (by exact h) ..
    · exact sound_enqueue (by exact h) ..
  · exact h

theorem sound_arrive (tag : Byte) (r : Request) : (ledger (arrive tag r s)).Sound :=
  sound_ite h (by simpa using sound_enqueue h tag r)

theorem sound_replySent : (ledger (replySent s)).Sound := by
  unfold replySent; split
  · exact h
  · exact sound_ite (by exact h) (sound_takeHead (by exact h))

theorem sound_txEnded : (ledger (txEnded s)).Sound := by
  unfold txEnded; split
  · exact h
  · dsimp only; split
    · rw [ledger_kickTx]; exact sound_replySent (by exact h)
    all_goals simpa using h

end

/-! ## Supplies and starts -/

theorem ledger_mainLost (s : State) : ledger (mainLost s) = ledger s := by
  refine ledger_of_sessions rfl rfl fun c => ?_
  show Option.isSome (look (mapAll _ _) c) = _
  rw [look_mapAll, Option.isSome_map]; rfl

/-- The cold journal is empty, and no session is open (R185). -/
theorem sound_cold {s : State} (h : s.ret = Retained.cold) : (ledger s).Sound := by
  have hsessions : s.openSessions = 0 := by
    rw [State.openSessions, countWhere_eq_indexes, h, List.countP_eq_zero]
    simp [Retained.cold]
  constructor
  · simp [ledger, h, Retained.cold]
  · simp [ledger, h, Retained.cold, hsessions]

/-- A start whose stages each keep the ledger sound keeps it so, also where it is cut. -/
theorem sound_runStages {stages : List (State → State)}
    (hf : ∀ f ∈ stages, ∀ s, (ledger s).Sound → (ledger (f s)).Sound) (cut : Option Nat) {s : State}
    (h : (ledger s).Sound) : (ledger (runStages cut stages s)).Sound := by
  have hfold : ∀ l : List (State → State), l ⊆ stages → (ledger (l.foldl (fun s f => f s) s)).Sound := by
    intro l hl
    induction l generalizing s with
    | nil => exact h
    | cons f l ih =>
      obtain ⟨hmem, hrest⟩ := List.cons_subset.1 hl
      exact ih (hf f hmem s h) hrest
  unfold runStages
  split
  · exact hfold _ (List.Subset.refl _)
  · refine sound_ite ?_ (hfold _ (List.Subset.refl _))
    rw [ledger_mainLost]
    exact hfold _ (List.take_subset ..)

theorem sound_serve {s : State} (h : (ledger s).Sound) : (ledger (serve s)).Sound := by
  simpa [serve] using h

theorem ledger_warmReconcile (c : ChamberNo) (s : State) : ledger (warmReconcile c s) = ledger s := by
  simp [warmReconcile]

theorem ledger_allWaiting (s : State) : ledger (allWaiting s) = ledger s := by simp [allWaiting]

/-- Each stage of a warm start keeps the ledger sound: the sessions it closes leave their records (R93, R186). -/
theorem sound_warmStages (kind : StartKind) :
    ∀ f ∈ warmStages kind, ∀ s, (ledger s).Sound → (ledger (f s)).Sound := by
  intro f hf s h
  simp only [warmStages, List.mem_append, List.mem_cons, List.mem_map, List.not_mem_nil, or_false] at hf
  rcases hf with (((((rfl | ⟨c, -, rfl⟩) | rfl) | ⟨c, -, rfl⟩) | rfl) | ⟨c, -, rfl⟩) | rfl | rfl | rfl
  · exact h
  · exact sound_closeSession h c (some .unconfirmed) false
  · simpa [warmJournal] using h
  · rwa [ledger_warmReconcile]
  · simpa [warmRound, ledger_allWaiting] using h
  · rwa [ledger_evaluate]
  · simpa [warmVisits, ledger_allWaiting] using h
  · simpa [warmLine] using h
  · exact h

theorem sound_warmStart {s : State} (h : (ledger s).Sound) (kind : StartKind) (cut : Option Nat) :
    (ledger (warmStart kind cut s)).Sound :=
  sound_serve (sound_runStages (sound_warmStages kind) cut h)

/-- A cold start that ends leaves the retained domain cold; one that is cut leaves it without its marker (R185). -/
theorem sound_coldStart {cut : Option Nat} {s : State} (hk : Known (coldStart cut s)) :
    (ledger (coldStart cut s)).Sound := by
  have hcold : ∀ t, (ledger (serve (coldMarker (coldDefaults t)))).Sound := fun t =>
    sound_serve (s := coldMarker (coldDefaults t)) (sound_cold (s := coldDefaults t) rfl)
  have hcut : ∀ t : State, t.marker = false → ¬ Known (serve (mainLost t)) := fun t ht hk => by
    rcases hk with hk | hk
    · cases hk
    · rw [show (serve (mainLost t)).marker = t.marker from rfl, ht] at hk; cases hk
  match cut with
  | none => exact hcold _
  | some 0 => exact absurd hk (hcut _ rfl)
  | some 1 => exact absurd hk (hcut _ rfl)
  | some (n + 2) =>
    have hrun : runStages (some (n + 2)) coldStages { s with marker := false } =
        coldMarker (coldDefaults { s with marker := false }) := by simp [runStages, coldStages]
    rw [coldStart, hrun]
    exact hcold _

/-! ## Every step keeps the ledger sound -/

/-- The ledger is sound wherever the retained domain counts as known. -/
def LedgerLaw (s : State) : Prop := Known s → (ledger s).Sound

/-- A command that needs main power keeps the law where its effect keeps a sound ledger so. -/
theorem ledgerLaw_whilePowered {s t : State} {f : State → State} (h : LedgerLaw s)
    (hf : (ledger s).Sound → (ledger (f s)).Sound) (ht : whilePowered f s = .next t) : LedgerLaw t := by
  cases ht
  split
  · next hv => exact fun _ => hf (h (.inl hv))
  · exact h

theorem ledgerLaw_arrive {s : State} (h : LedgerLaw s) (tag : Byte) (r : Request) : LedgerLaw (arrive tag r s) := by
  cases hv : s.vdd with
  | false => rw [arrive, if_pos (.inl hv)]; exact h
  | true => exact fun _ => sound_arrive (h (.inl hv)) tag r

/-- A power-up is warm with the marker in place, and cold without it (R185). -/
theorem ledgerLaw_execMainPowerUp {s t : State} (h : LedgerLaw s) {good : Bool} {cut : Option Nat}
    (ht : execMainPowerUp good cut s = .next t) : LedgerLaw t := by
  cases ht
  split
  · exact h
  split
  · next hm => exact fun _ => sound_warmStart (s := mainRestored s) (h (.inr (Bool.and_eq_true_iff.1 hm).1)) _ cut
  · exact sound_coldStart

theorem ledgerLaw_execWarmStart {s t : State} (h : LedgerLaw s) {cut : Option Nat}
    (ht : execWarmStart cut s = .next t) : LedgerLaw t := by
  cases ht
  split
  · next hv =>
    split
    · exact fun _ => sound_warmStart (h (.inl hv)) _ cut
    · exact h
  · split
    · next hm => exact fun _ => sound_warmStart (s := mainRestored s) (h (.inr hm)) _ cut
    · exact h

theorem ledgerLaw_exec {i : Instr} {s t : State} (h : LedgerLaw s) (ht : exec i s = .next t) : LedgerLaw t := by
  cases i
  case mainPowerUp => exact ledgerLaw_execMainPowerUp h ht
  case warmStart => exact ledgerLaw_execWarmStart h ht
  case mainPowerLoss =>
    cases ht; split
    · next hv => exact fun _ => ledger_mainLost s ▸ h (.inl hv)
    · exact h
  case partClockWrap => cases ht; split <;> exact h
  case backupSupplyLoss =>
    cases ht; split
    · exact h
    · next hv => exact fun hk => absurd hk (not_or.2 ⟨hv, Bool.false_ne_true⟩)
  case lineFrameDiscard => cases ht; exact h
  case hostFrameReceived bytes =>
    exact ledgerLaw_whilePowered h (sound_eachOf (fun b _ h => sound_receive h b) bytes) ht
  case hostInterbyteTimeout => exact ledgerLaw_whilePowered (f := fun s => s.onHost _) h id ht
  case transmitEnd => exact ledgerLaw_whilePowered h sound_txEnded ht
  case responseWindowExpiry => exact ledgerLaw_whilePowered h sound_takeExpiry ht
  case unlockEnd e => exact ledgerLaw_whilePowered h (fun h => sound_takeCommandEnd h _ (sound_endUnlock h) e) ht
  case denyEnd e => exact ledgerLaw_whilePowered h (fun h => sound_takeCommandEnd h _ (sound_endDeny h) e) ht
  case lockEnd e => exact ledgerLaw_whilePowered h (fun h => sound_takeCommandEnd h _ (sound_endLock h) e) ht
  case releaseEnd e => exact ledgerLaw_whilePowered h (fun h => sound_takeCommandEnd h _ (sound_endRelease h) e) ht
  case measureEnd e => exact ledgerLaw_whilePowered h (sound_takeMeasureEnd · e) ht
  case attnReadEnd e => exact ledgerLaw_whilePowered h (sound_takeReadEnd · e) ht
  case assignEnd e => exact ledgerLaw_whilePowered h (sound_takeAssignEnd · e) ht
  case statusEnd e => exact ledgerLaw_whilePowered h (sound_takeStatusEnd · e) ht
  case bindingStatusEnd e => exact ledgerLaw_whilePowered h (sound_takeBindingEnd · e) ht
  case attnQueryWindow b w => exact ledgerLaw_whilePowered h (fun h => sound_endCast h _ (by simpa using h)) ht
  case contendWindow b x => exact ledgerLaw_whilePowered h (fun h => sound_endCast h _ (sound_takeContend h b x)) ht
  case censusOpenSent => exact ledgerLaw_whilePowered h (fun h => sound_endCast h _ h) ht
  case dormantSent => exact ledgerLaw_whilePowered h (fun h => sound_endCast h _ (sound_ite (by exact h) h)) ht
  case dropAddressSent => exact ledgerLaw_whilePowered h (fun h => sound_endCast h _ h) ht
  case guardDeadline c => exact ledgerLaw_whilePowered h (sound_guardReached · c) ht
  case visitDeadline st => exact ledgerLaw_whilePowered h (sound_visitReached · st) ht
  case returnDeadline c => exact ledgerLaw_whilePowered h (sound_returnReached · c) ht
  case measurementTimeout st => exact ledgerLaw_whilePowered h (sound_timeoutReached · st) ht
  case censusPeriodDeadline => exact ledgerLaw_whilePowered h sound_periodReached ht
  case quietDeadline => exact ledgerLaw_whilePowered h sound_quietReached ht
  case dormantDeadline => exact ledgerLaw_whilePowered h sound_dormantLimitReached ht
  case wakePulse n => exact ledgerLaw_whilePowered h (sound_pulseRead · n) ht
  case settleEnd => exact ledgerLaw_whilePowered h sound_settleReached ht
  all_goals
    rw [exec_of_request rfl] at ht
    cases ht
    exact ledgerLaw_arrive h _ _

/-- One second on an empty queue leaves the journal and the sessions as they are (R188). -/
theorem ledgerLaw_idle {s : State} (h : LedgerLaw s) : LedgerLaw (idle s) := by
  unfold idle
  split
  · next hv => exact fun _ => by rw [ledger_settle]; exact h (.inl hv)
  · split <;> exact h

/-- Settles O53: the two laws say that the ledger is sound where the retained domain is known, and each command keeps it so. -/
theorem stepKeepsJournalLaws : Obligations.StepKeepsJournalLaws := by
  intro s t hseq hroom ht
  have h : LedgerLaw s := sequenceLaw_and_roomLaw_iff.1 ⟨hseq, hroom⟩
  refine sequenceLaw_and_roomLaw_iff.2 ?_
  unfold step at ht
  split at ht
  · next i rest _ => exact ledgerLaw_exec (i := i) (s := { s with pending := rest }) h ht
  · cases ht; exact ledgerLaw_idle h

end Sys2Proof.Machine
end

section
/-! PROOFS. JOURNAL RELEASE on a ready part (R104, R106, R107). -/

namespace Sys2Proof.Machine

/-- The state without its oldest `n` records. -/
def recordsDropped (n : Nat) (s : State) : State := { s with ret := { s.ret with journal := s.ret.journal.drop n } }

/-- The removal of `n` records takes the record count below the high-water mark (R106), or the room taken below the journal's
room (R107). -/
def releaseCrosses (n : Nat) (s : State) : Prop :=
  (3072 ≤ s.ret.journal.length ∧ s.ret.journal.length - n < 3072) ∨ (4096 ≤ s.roomTaken ∧ s.roomTaken - n < 4096)

section
variable {s : State}

theorem highWater_recordsDropped (n : Nat) : (recordsDropped n s).highWater = decide (3072 ≤ s.ret.journal.length - n) := by
  simp [State.highWater, recordsDropped, Config.highWater]

theorem journalFull_recordsDropped {n : Nat} (hn : n ≤ s.ret.journal.length) :
    (recordsDropped n s).journalFull = decide (4096 ≤ s.roomTaken - n) := by
  have hroom : (recordsDropped n s).roomTaken = s.roomTaken - n := by
    simp only [State.roomTaken, recordsDropped, List.length_drop]
    exact (Nat.sub_add_comm hn).symm
  simp [State.journalFull, hroom, Config.journalRoom]

/-- A release posts (JOURNAL) exactly where it crosses one of the two bounds. -/
theorem crossing_flags_iff {n : Nat} (hn : n ≤ s.ret.journal.length) :
    (s.highWater && !(recordsDropped n s).highWater || s.journalFull && !(recordsDropped n s).journalFull) = true ↔
      releaseCrosses n s := by
  rw [highWater_recordsDropped, journalFull_recordsDropped hn]
  simp [State.highWater, State.journalFull, releaseCrosses, Config.highWater, Config.journalRoom]

theorem releaseRecords_of_crosses {n : Nat} (hn : n ≤ s.ret.journal.length) (h : releaseCrosses n s) :
    releaseRecords n s = post .journal (recordsDropped n s) :=
  if_pos ((crossing_flags_iff hn).2 h)

theorem releaseRecords_of_not_crosses {n : Nat} (hn : n ≤ s.ret.journal.length) (h : ¬ releaseCrosses n s) :
    releaseRecords n s = recordsDropped n s :=
  if_neg (mt (crossing_flags_iff hn).1 h)

theorem takeJournalRelease_refused {count : BitVec 16} {head : Seconds} (h : head ≠ s.headSeq) :
    takeJournalRelease count (some head) s = (s, { result := .refused, content := releaseCounts 0 s }) :=
  if_pos (by simpa using h)

theorem okIf_ne (a b : Nat) : okIf (a ≠ b) = if a = b then .ok else .okClamped := by
  by_cases h : a = b <;> simp [okIf, h]

/-- The reply to a release of as many records as there are, and no more than were asked for. -/
def releaseReply (count : BitVec 16) (s : State) : Reply :=
  let n := min count.toNat s.ret.journal.length
  { result := if n = count.toNat then .ok else .okClamped, content := releaseCounts n (recordsDropped n s) }

theorem takeJournalRelease_taken {count : BitVec 16} {expected : Option Seconds}
    (h : expected = none ∨ expected = some s.headSeq) : takeJournalRelease count expected s =
      (releaseRecords (min count.toNat s.ret.journal.length) s, releaseReply count s) := by
  have hhead : ¬ expected.any (fun h => h ≠ s.headSeq) = true := by rcases h with rfl | rfl <;> simp
  have hcounts : ∀ n, releaseCounts n (releaseRecords n s) = releaseCounts n (recordsDropped n s) := fun n => by
    unfold releaseRecords; dsimp only; split <;> rfl
  rw [takeJournalRelease, if_neg hhead]
  simp only [hcounts, okIf_ne, releaseReply]

/-- A release that a ready part takes at once is answered on the state that it leaves. -/
theorem exec_journalRelease_taken {tag : Byte} {count : BitVec 16} {expected : Option Seconds} (htag : tag ≠ 0)
    (hs : Ready s) (h : expected = none ∨ expected = some s.headSeq) : exec (.journalRelease tag count expected) s =
      .next (replied tag (.journalRelease count expected) (releaseReply count s)
        (releaseRecords (min count.toNat s.ret.journal.length) s)) := by
  have hqueued (n : Nat) (r : Request) : releaseRecords n (queued tag r s) = queued tag r (releaseRecords n s) := by
    unfold releaseRecords
    dsimp only
    rw [apply_ite (queued tag r)]
    rfl
  refine (exec_of_ready (r := .journalRelease count expected) rfl htag hs (takeJournalRelease_taken h)).trans ?_
  exact (congrArg (fun t => Host.Outcome.next (replied tag _ (releaseReply count s) t)) (hqueued ..)).trans
    (congrArg Host.Outcome.next (replied_queued ..))

end

/-- Settles O24: the request reaches its owner at once, and the owner's two flags are the two crossings. -/
theorem journalReleaseRemovesTheOldest : Obligations.JournalReleaseRemovesTheOldest := by
  intro tag count expected s htag hs run report
  have hn : min count.toNat s.ret.journal.length ≤ s.ret.journal.length := Nat.min_le_right ..
  refine ⟨fun head he hne => ?refused, fun htaken => ⟨fun hcross => ?crossed, fun hcross => ?within⟩⟩
  case refused =>
    subst he
    exact exec_of_ready_unchanged rfl htag hs (takeJournalRelease_refused hne)
  case crossed =>
    refine (exec_journalRelease_taken htag hs htaken).trans ?_
    rw [releaseRecords_of_crosses hn hcross]; rfl
  case within =>
    refine (exec_journalRelease_taken htag hs htaken).trans ?_
    rw [releaseRecords_of_not_crosses hn hcross]; rfl

end Sys2Proof.Machine
end

section
/-! PROOFS. What the law of the round list reads of a state (R111), the rules of the list's own operations, and which
operations leave the list and the candidate flags as they stand. -/

namespace Sys2Proof.Machine

/-! ## What the law reads -/

/-- What the law of the round list reads of a state: the entries, and the candidate flags. -/
structure Sheet where
  entries : List Entry
  flags   : Vector Bool 64

/-- The sheet of a state. -/
def sheet (s : State) : Sheet where
  entries := s.ret.round
  flags := s.main.candidates

/-- The list keeps to its room, names no chamber twice, has URGENT before NORMAL, and lists no candidate (R111). -/
structure Sheet.Tidy (r : Sheet) : Prop where
  room        : r.entries.length ≤ Config.roundRoom
  once        : (r.entries.map (·.chamber)).Nodup
  urgentFirst : r.entries.Pairwise fun a b => b.urgency = .urgent → a.urgency = .urgent
  unflagged   : ∀ e ∈ r.entries, look r.flags e.chamber = false

theorem roundLaw_iff {s : State} : RoundLaw s ↔ (Known s → (sheet s).Tidy) := by
  constructor
  · intro h hk
    obtain ⟨hroom, honce, hurgent, hflags⟩ := h hk
    exact ⟨hroom, honce, hurgent, hflags⟩
  · intro h hk
    have ht := h hk
    exact ⟨ht.room, ht.once, ht.urgentFirst, ht.unflagged⟩

/-! ## Joining a class, and leaving the list -/

theorem joinClass_perm (e : Entry) (l : List Entry) : (joinClass e l).Perm (e :: l) := by
  unfold joinClass
  split
  · exact List.perm_append_singleton e l
  · have hclass : ∀ x : Entry, (decide (x.urgency = .normal)) = !decide (x.urgency = .urgent) := fun x => by
      cases x.urgency <;> rfl
    simp only [hclass]
    exact List.perm_middle.trans ((List.filter_append_perm _ l).cons e)

theorem mem_joinClass {e x : Entry} {l : List Entry} : x ∈ joinClass e l ↔ x = e ∨ x ∈ l := by
  rw [(joinClass_perm e l).mem_iff, List.mem_cons]

theorem joinClass_urgentFirst (e : Entry) {l : List Entry}
    (h : l.Pairwise fun a b => b.urgency = .urgent → a.urgency = .urgent) :
    (joinClass e l).Pairwise fun a b => b.urgency = .urgent → a.urgency = .urgent := by
  unfold joinClass
  split
  · next he => exact List.pairwise_append.2 ⟨h, List.pairwise_singleton .., fun a _ b hb hu => by simp_all⟩
  · next he =>
    refine List.pairwise_append.2 ⟨h.filter _, List.pairwise_cons.2 ⟨fun _ _ _ => he, h.filter _⟩, fun a ha b _ _ => ?_⟩
    exact of_decide_eq_true (List.mem_filter.1 ha).2

theorem mem_withoutEntry {c : ChamberNo} {x : Entry} {l : List Entry} :
    x ∈ withoutEntry c l ↔ x ∈ l ∧ x.chamber ≠ c := by
  simp [withoutEntry]

theorem length_withoutEntry_lt {c : ChamberNo} {e : Entry} {l : List Entry} (he : e ∈ l) (hc : e.chamber = c) :
    (withoutEntry c l).length < l.length :=
  List.length_filter_lt_length_iff_exists.2 ⟨e, he, by simp [hc]⟩

namespace Sheet.Tidy
variable {r : Sheet} (h : r.Tidy)
include h

theorem without (c : ChamberNo) : Tidy { r with entries := withoutEntry c r.entries } where
  room := (List.length_filter_le ..).trans h.room
  once := h.once.sublist (List.filter_sublist.map _)
  urgentFirst := h.urgentFirst.filter _
  unflagged := fun e he => h.unflagged e (mem_withoutEntry.1 he).1

theorem joined {e : Entry} (hroom : r.entries.length < Config.roundRoom) (hnew : ∀ x ∈ r.entries, x.chamber ≠ e.chamber)
    (hflag : look r.flags e.chamber = false) : Tidy { r with entries := joinClass e r.entries } where
  room := by rw [(joinClass_perm e r.entries).length_eq]; exact hroom
  once := by
    rw [((joinClass_perm e r.entries).map _).nodup_iff]
    exact List.nodup_cons.2 ⟨by simpa using hnew, h.once⟩
  urgentFirst := joinClass_urgentFirst e h.urgentFirst
  unflagged := fun x hx => by
    rcases mem_joinClass.1 hx with rfl | hx
    · exact hflag
    · exact h.unflagged x hx

theorem rewritten (f : Entry → Entry) (hc : ∀ e, (f e).chamber = e.chamber) (hu : ∀ e, (f e).urgency = e.urgency) :
    Tidy { r with entries := r.entries.map f } where
  room := by simpa using h.room
  once := by
    rw [List.map_map]
    exact (List.map_congr_left fun e _ => hc e) ▸ h.once
  urgentFirst := List.pairwise_map.2 (h.urgentFirst.imp fun hab hb => by rw [hu] at hb ⊢; exact hab hb)
  unflagged := fun x hx => by
    obtain ⟨e, he, rfl⟩ := List.mem_map.1 hx
    rw [hc]; exact h.unflagged e he

theorem flagged {c : ChamberNo} {b : Bool} (hc : b = true → ∀ x ∈ r.entries, x.chamber ≠ c) :
    Tidy { r with flags := put r.flags c b } where
  room := h.room
  once := h.once
  urgentFirst := h.urgentFirst
  unflagged := fun e he => by
    dsimp only
    rw [look_put]
    split
    · next hec => cases b with
      | false => rfl
      | true => exact absurd hec (hc rfl e he)
    · exact h.unflagged e he

end Sheet.Tidy

/-! ## The list's operations -/

section
variable (s : State) (c : ChamberNo)

theorem roundEntry_eq_none {s : State} {c : ChamberNo} :
    s.roundEntry c = none ↔ ∀ e ∈ (sheet s).entries, e.chamber ≠ c := by
  simp [State.roundEntry, sheet]

theorem mem_of_roundEntry {s : State} {c : ChamberNo} {e : Entry} (h : s.roundEntry c = some e) :
    e ∈ (sheet s).entries ∧ e.chamber = c :=
  ⟨List.mem_of_find?_eq_some h, by simpa using List.find?_some h⟩

@[simp] theorem sheet_post (k : Key) : sheet (post k s) = sheet s := rfl

@[simp] theorem sheet_changeRound (l : List Entry) : sheet (changeRound l s) = { sheet s with entries := l } := by
  unfold changeRound
  split
  · next h => rw [h]; rfl
  · rfl

@[simp] theorem sheet_setCandidate (b : Bool) :
    sheet (setCandidate c b s) = { sheet s with flags := put (sheet s).flags c b } := by
  unfold setCandidate
  split
  · next h => exact congrArg (Sheet.mk _) (by rw [← h]; exact (put_look ..).symm)
  · rfl

@[simp] theorem sheet_rewriteEntry (f : Entry → Entry) : sheet (rewriteEntry c f s) =
    { sheet s with entries := (sheet s).entries.map fun e => if e.chamber = c then f e else e } := sheet_changeRound ..

/-- The entry that a chamber configured so is given when it is listed (R112, R117). -/
def newEntry (g : ChamberConfig) (u : Urgency) (forced : Bool) : Entry where
  chamber := c
  fraction := g.fraction
  fill := s.fill c
  entered := s.now
  urgency := u
  forced := forced
  state := s.entryState c
  skips := 0

theorem makeEntry_of_config {s : State} {c : ChamberNo} {g : ChamberConfig} (hg : (s.chamber c).config = some g)
    (u : Urgency) (forced : Bool) :
    makeEntry c u forced s = changeRound (joinClass (newEntry s c g u forced) s.ret.round) s := by
  unfold makeEntry; rw [hg]; rfl

theorem makeEntry_of_unconfigured {s : State} {c : ChamberNo} (hg : (s.chamber c).config = none)
    (u : Urgency) (forced : Bool) : makeEntry c u forced s = s := by
  unfold makeEntry; rw [hg]

/-- The choice between the best candidate so far and the next chamber (R113). -/
def betterCandidate (best : Option ChamberNo) (c : ChamberNo) : Option ChamberNo :=
  if s.candidate c then
    match best with
    | none => some c
    | some b => if s.fill b < s.fill c then some c else some b
  else best

theorem bestCandidate_eq : s.bestCandidate = (indexes 64).foldl (betterCandidate s) none := rfl

/-- The best of the candidates among `l`: of the highest E, and the lowest number among equals (R113). -/
def IsBest (l : List ChamberNo) : Option ChamberNo → Prop
  | none => ∀ o ∈ l, s.candidate o = false
  | some d => s.candidate d = true ∧ d ∈ l ∧
      ∀ o ∈ l, s.candidate o = true → s.fill o ≤ s.fill d ∧ (s.fill o = s.fill d → d ≤ o)

/-- The next chamber in order is weighed against the best so far. -/
theorem isBest_betterCandidate {l : List ChamberNo} {b : Option ChamberNo} {x : ChamberNo} (hb : IsBest s l b)
    (hx : ∀ o ∈ l, o < x) : IsBest s (l ++ [x]) (betterCandidate s b x) := by
  unfold betterCandidate
  cases hc : s.candidate x with
  | false =>
    cases b with
    | none => simpa [IsBest, or_imp, forall_and, hc] using hb
    | some d =>
      obtain ⟨hd, hmem, hbest⟩ := hb
      refine ⟨hd, List.mem_append_left _ hmem, fun o ho hoc => ?_⟩
      rcases List.mem_append.1 ho with ho | ho
      · exact hbest o ho hoc
      · rw [List.mem_singleton.1 ho, hc] at hoc; cases hoc
  | true =>
    cases b with
    | none =>
      refine ⟨hc, by simp, fun o ho hoc => ?_⟩
      rcases List.mem_append.1 ho with ho | ho
      · rw [hb o ho] at hoc; cases hoc
      · rw [List.mem_singleton.1 ho]; exact ⟨le_rfl, fun _ => le_rfl⟩
    | some d =>
      obtain ⟨hd, hmem, hbest⟩ := hb
      dsimp only
      rw [if_pos rfl]
      split
      · next hlt =>
        refine ⟨hc, by simp, fun o ho hoc => ?_⟩
        rcases List.mem_append.1 ho with ho | ho
        · have hle := (hbest o ho hoc).1
          exact ⟨by omega, fun heq => by omega⟩
        · rw [List.mem_singleton.1 ho]; exact ⟨le_rfl, fun _ => le_rfl⟩
      · next hge =>
        refine ⟨hd, List.mem_append_left _ hmem, fun o ho hoc => ?_⟩
        rcases List.mem_append.1 ho with ho | ho
        · exact hbest o ho hoc
        · rw [List.mem_singleton.1 ho]; exact ⟨Nat.not_lt.1 hge, fun _ => (hx d hmem).le⟩

theorem isBest_bestCandidate : IsBest s (indexes 64) s.bestCandidate := by
  have hfold : ∀ l : List ChamberNo, l.Pairwise (· < ·) → IsBest s l (l.foldl (betterCandidate s) none) := by
    intro l
    induction l using List.reverseRecOn with
    | nil => exact fun _ => nofun
    | append_singleton l x ih =>
      intro hl
      obtain ⟨hl, -, hx⟩ := List.pairwise_append.1 hl
      rw [List.foldl_append]
      exact isBest_betterCandidate s (ih hl) fun o ho => hx o ho x (List.mem_singleton_self x)
  rw [bestCandidate_eq]
  exact hfold _ (List.pairwise_lt_finRange 64)

/-- The candidate that is admitted carries the flag. -/
theorem candidate_of_best {s : State} {c : ChamberNo} (h : s.bestCandidate = some c) : s.candidate c = true := by
  have hbest := isBest_bestCandidate s
  rw [h] at hbest
  exact hbest.1

end

section
variable {s : State} (h : (sheet s).Tidy) (c : ChamberNo)
include h

theorem tidy_rewriteEntry (f : Entry → Entry) (hc : ∀ e, (f e).chamber = e.chamber)
    (hu : ∀ e, (f e).urgency = e.urgency) : (sheet (rewriteEntry c f s)).Tidy := by
  rw [sheet_rewriteEntry]
  exact h.rewritten _ (fun e => by split <;> simp [hc]) (fun e => by split <;> simp [hu])

theorem tidy_clearFlag : (sheet (setCandidate c false s)).Tidy := by
  rw [sheet_setCandidate]; exact h.flagged nofun

theorem tidy_makeEntry (hroom : s.ret.round.length < Config.roundRoom) (hnew : s.roundEntry c = none)
    (hflag : s.candidate c = false) (u : Urgency) (forced : Bool) : (sheet (makeEntry c u forced s)).Tidy := by
  cases hg : (s.chamber c).config with
  | none => rwa [makeEntry_of_unconfigured hg]
  | some g =>
    rw [makeEntry_of_config hg, sheet_changeRound]
    exact h.joined hroom (roundEntry_eq_none.1 hnew) hflag

/-- A candidate is not listed. -/
theorem unlisted_of_candidate {c : ChamberNo} (hc : s.candidate c = true) : s.roundEntry c = none := by
  refine roundEntry_eq_none.2 fun e he hec => ?_
  have := h.unflagged e he
  rw [hec] at this
  exact Bool.false_ne_true (this.symm.trans hc)

theorem tidy_admitCandidate (hroom : s.ret.round.length < Config.roundRoom) : (sheet (admitCandidate s)).Tidy := by
  unfold admitCandidate
  split
  · exact h
  · next c hc =>
    have hsheet := sheet_setCandidate s c false
    have hround : (setCandidate c false s).ret.round = s.ret.round := congrArg Sheet.entries hsheet
    refine tidy_makeEntry (tidy_clearFlag h c) c (by rwa [hround]) ?_ ?_ _ _
    · rw [State.roundEntry, hround]
      exact unlisted_of_candidate h (candidate_of_best hc)
    · exact (congrArg (look ·.flags c) hsheet).trans (look_put_same ..)

@[simp] theorem tidy_removeEntry : (sheet (removeEntry c s)).Tidy := by
  unfold removeEntry
  split
  · exact h
  · next e he =>
    obtain ⟨hmem, hec⟩ := mem_of_roundEntry he
    have hsheet := sheet_changeRound s (withoutEntry c s.ret.round)
    refine tidy_admitCandidate (by rw [hsheet]; exact h.without c) ?_
    rw [show (changeRound (withoutEntry c s.ret.round) s).ret.round = _ from congrArg Sheet.entries hsheet]
    exact (length_withoutEntry_lt hmem hec).trans_le h.room

@[simp] theorem tidy_promote : (sheet (promote c s)).Tidy := by
  unfold promote
  split
  · next e he =>
    obtain ⟨hmem, hec⟩ := mem_of_roundEntry he
    split
    · rw [sheet_changeRound]
      exact (h.without c).joined (e := { e with urgency := .urgent }) ((length_withoutEntry_lt hmem hec).trans_le h.room)
        (fun x hx => hec ▸ (mem_withoutEntry.1 hx).2) (h.unflagged e hmem)
    · exact h
  · exact h

theorem tidy_takeOffer (hnew : s.roundEntry c = none) (hflag : s.candidate c = false) (full : Bool) :
    (sheet (takeOffer c full s)).Tidy := by
  have hunlisted := roundEntry_eq_none.1 hnew
  have hraise : (sheet (setCandidate c true s)).Tidy := by
    rw [sheet_setCandidate]; exact h.flagged fun _ => hunlisted
  unfold takeOffer
  split
  · next hroom => exact tidy_makeEntry h c hroom hnew hflag _ _
  split
  case h_2 => exact hraise
  case h_1 e he =>
    have hmem : e ∈ (sheet s).entries := (List.mem_filter.1 (List.mem_of_getLast? he)).1
    have hsheet : sheet (setCandidate e.chamber true (changeRound (withoutEntry e.chamber s.ret.round) s)) =
        { entries := withoutEntry e.chamber s.ret.round, flags := put s.main.candidates e.chamber true } := by
      rw [sheet_setCandidate, sheet_changeRound]; rfl
    have hround := congrArg Sheet.entries hsheet
    refine tidy_makeEntry ?_ c ?_ ?_ ?_ _ _
    · rw [hsheet]
      exact (h.without e.chamber).flagged fun _ x hx => (mem_withoutEntry.1 hx).2
    · refine (congrArg List.length hround).trans_lt ?_
      exact (length_withoutEntry_lt hmem rfl).trans_le h.room
    · refine roundEntry_eq_none.2 fun x hx => ?_
      rw [hround] at hx
      exact hunlisted x (mem_withoutEntry.1 hx).1
    · refine (congrArg (look ·.flags c) hsheet).trans ?_
      exact (look_put_other _ _ _ _ (hunlisted e hmem).symm).trans hflag

end

end Sys2Proof.Machine
end

section
/-! PROOFS. Which operations leave the list and the candidate flags as they stand (R111). -/

namespace Sys2Proof.Machine

/-! ## Updates -/

section
variable (s : State) (c : ChamberNo) (st : StationNo) (a : AddrNo)

theorem sheet_ite (p : Prop) [Decidable p] (x y : State) :
    sheet (if p then x else y) = if p then sheet x else sheet y := apply_ite sheet p x y

theorem sheet_eachOf {α : Type} (l : List α) (f : α → State → State)
    (h : ∀ x s, sheet (f x s) = sheet s) (s : State) : sheet (eachOf l f s) = sheet s := by
  induction l generalizing s with
  | nil => rfl
  | cons x l ih => exact (ih (f x s)).trans (h x s)

@[simp] theorem sheet_onHost (f : HostLink → HostLink) : sheet (s.onHost f) = sheet s := rfl
@[simp] theorem sheet_onLine (f : Line → Line) : sheet (s.onLine f) = sheet s := rfl
@[simp] theorem sheet_onSched (f : Scheduler → Scheduler) : sheet (s.onSched f) = sheet s := rfl
@[simp] theorem sheet_onPower (f : Power → Power) : sheet (s.onPower f) = sheet s := rfl
@[simp] theorem sheet_onCensus (f : Census → Census) : sheet (s.onCensus f) = sheet s := rfl
@[simp] theorem sheet_onChamber (f : Chamber → Chamber) : sheet (s.onChamber c f) = sheet s := rfl
@[simp] theorem sheet_onEstimate (f : Estimate → Estimate) : sheet (s.onEstimate c f) = sheet s := rfl
@[simp] theorem sheet_onStation (f : Station → Station) : sheet (s.onStation st f) = sheet s := rfl
@[simp] theorem sheet_onAccount (b : AccountNo) (f : Account → Account) : sheet (s.onAccount b f) = sheet s := rfl
@[simp] theorem sheet_onClock (f : Clock → Clock) : sheet (s.onClock f) = sheet s := rfl
@[simp] theorem sheet_setSession (o : Option Session) : sheet (s.setSession c o) = sheet s := rfl
@[simp] theorem sheet_setVisits (v : Vector (Option Visit) 4) : sheet (s.setVisits v) = sheet s := rfl
@[simp] theorem sheet_setMapped (sl : SlotNo) (o : Option ChamberNo) : sheet (s.setMapped st sl o) = sheet s := rfl
@[simp] theorem sheet_setSlot (x : CommandSlot) : sheet (s.setSlot c x) = sheet s := rfl
@[simp] theorem sheet_setPosting (l : List ChamberNo) : sheet (s.setPosting l) = sheet s := rfl
@[simp] theorem sheet_setReturn (d : Option Deadline) : sheet (s.setReturn c d) = sheet s := rfl
@[simp] theorem sheet_setEntry (o : Option LineEntry) : sheet (s.setEntry a o) = sheet s := rfl
@[simp] theorem sheet_setTurn (t : Option Turn) : sheet (s.setTurn t) = sheet s := rfl
@[simp] theorem sheet_setInflight (o : Option Inflight) : sheet (s.setInflight st o) = sheet s := rfl
@[simp] theorem sheet_postWith (k : Key) (n : CardNo) (x : Serial) : sheet (postWith k n x s) = sheet s := rfl
@[simp] theorem sheet_alarm (t : AlarmType) : sheet (alarm t c s) = sheet s := rfl
@[simp] theorem sheet_postNode (x : Serial) : sheet (postNode a x s) = sheet s := rfl
@[simp] theorem sheet_pass (n : Nat) : sheet (pass n s) = sheet s := rfl
@[simp] theorem sheet_passTo (d : Deadline) : sheet (passTo d s) = sheet s := rfl
@[simp] theorem sheet_freeCount (n : Nat) : sheet { s with freeCount := n } = sheet s := rfl

/-! ## Access states, slots, phases and sessions -/

@[simp] theorem sheet_disturb : sheet (disturb c s) = sheet s := rfl
@[simp] theorem sheet_dropOwed : sheet (dropOwed c s) = sheet s := rfl
@[simp] theorem sheet_setAccess (x : Access) : sheet (setAccess c x s) = sheet s := by
  simp [setAccess, sheet_ite]
@[simp] theorem sheet_accessStep (g : ChamberConfig) : sheet (accessStep g c s) = sheet s := by
  unfold accessStep; split <;> simp [sheet_ite]
@[simp] theorem sheet_takeMiss : sheet (takeMiss c s) = sheet s := by simp [takeMiss, sheet_ite]
@[simp] theorem sheet_requestSweep : sheet (requestSweep s) = sheet s :=
  sheet_eachOf _ _ (fun c s => by simp [sheet_ite]) s

theorem sheet_of_slotStep {s t : State} {c : ChamberNo} (h : SlotStep s t c) : sheet t = sheet s := by
  obtain ⟨x, order, rfl, -⟩ := h; rfl

@[simp] theorem sheet_abandonTurn (p : TurnKind → Bool) : sheet (abandonTurn p s) = sheet s := by
  rcases abandonTurn_cases s p with h | h <;> rw [h]; rfl
@[simp] theorem sheet_dropPending : sheet (dropPending c s) = sheet s := rfl
@[simp] theorem sheet_postCommand (x : Command) : sheet (postCommand c x s) = sheet s :=
  sheet_of_slotStep (postCommand_step s c x)
@[simp] theorem sheet_removePending (p : Command → Bool) : sheet (removePending p c s) = sheet s :=
  sheet_of_slotStep (removePending_step s c p)
@[simp] theorem sheet_clearSlot : sheet (clearSlot c s) = sheet s := by simp [clearSlot]
@[simp] theorem sheet_setPhaseAt (p : Fin 4) (ph : Phase) : sheet (setPhaseAt p c ph s) = sheet s := by
  unfold setPhaseAt; split <;> rfl
@[simp] theorem sheet_setPhase (ph : Phase) : sheet (setPhase c ph s) = sheet s := by
  unfold setPhase; split <;> simp
@[simp] theorem sheet_changePower (p : PowerState) (k : PowerCause) : sheet (changePower p k s) = sheet s := rfl
@[simp] theorem sheet_setQuiet : sheet (setQuiet s) = sheet s := rfl
@[simp] theorem sheet_abandonPreparation (k : PowerCause) : sheet (abandonPreparation k s) = sheet s := by
  simp [abandonPreparation, sheet_ite]
@[simp] theorem sheet_settleAccount (x : Session) (o : Option JournalOutcome) :
    sheet (settleAccount x o s) = sheet s := by
  unfold settleAccount; split <;> rfl
@[simp] theorem sheet_appendRecord (r : JournalRecord) : sheet (appendRecord r s) = sheet s := by
  unfold appendRecord; dsimp only; split <;> rfl
@[simp] theorem sheet_settleJournal (x : Session) (o : Option JournalOutcome) :
    sheet (settleJournal c x o s) = sheet s := by
  unfold settleJournal; split
  · simp
  · simp [sheet_ite]
@[simp] theorem sheet_endDrain : sheet (endDrain c s) = sheet s := by simp [endDrain, sheet_ite]
@[simp] theorem sheet_useCard (n : CardNo) : sheet (useCard n st s) = sheet s := rfl
@[simp] theorem sheet_reserve (g : Grant) : sheet (reserve g s) = sheet s := by
  unfold reserve; split <;> rfl
@[simp] theorem sheet_grant (g : ChamberConfig) (n : CardNo) (x : Grant) : sheet (grant st c g n x s) = sheet s := by
  simp [grant, sheet_ite]
@[simp] theorem sheet_refuse (n : CardNo) (d : DenyCode) : sheet (refuse c n d s) = sheet s := by
  simp [refuse, sheet_ite]
@[simp] theorem sheet_markLift : sheet (markLift c s) = sheet s := rfl
@[simp] theorem sheet_ensureReturn : sheet (ensureReturn c s) = sheet s := by simp [ensureReturn, sheet_ite]
@[simp] theorem sheet_liftLocked : sheet (liftLocked c s) = sheet s := by simp [liftLocked]
@[simp] theorem sheet_liftBlocked : sheet (liftBlocked c s) = sheet s := by simp [liftBlocked]
@[simp] theorem sheet_releaseEnded (b : Bool) : sheet (releaseEnded c b s) = sheet s := by
  simp [releaseEnded, sheet_ite]

/-! ## Measurements, the line and the census -/

@[simp] theorem sheet_endDisturbed : sheet (endDisturbed c s) = sheet s := by simp [endDisturbed, sheet_ite]
@[simp] theorem sheet_measureEnded (b : Bool) : sheet (measureEnded st b s) = sheet s := by
  unfold measureEnded; split <;> simp [sheet_ite]
@[simp] theorem sheet_measureTimedOut (r : Inflight) : sheet (measureTimedOut st r s) = sheet s := by
  simp [measureTimedOut, sheet_ite]
@[simp] theorem sheet_clearInflight : sheet (clearInflight st s) = sheet s := by simp [clearInflight]
@[simp] theorem sheet_moveTimeouts : sheet (moveTimeouts s) = sheet s := rfl
@[simp] theorem sheet_moveGuards : sheet (moveGuards s) = sheet s := rfl
@[simp] theorem sheet_startTurn (k : TurnKind) (f : List Byte) : sheet (startTurn k f s) = sheet s := rfl
@[simp] theorem sheet_withhold : sheet (withhold a s) = sheet s := rfl
@[simp] theorem sheet_removeAddress : sheet (removeAddress a s) = sheet s := by simp [removeAddress]
@[simp] theorem sheet_releaseNode (x : Serial) : sheet (releaseNode a x s) = sheet s := by simp [releaseNode]
@[simp] theorem sheet_freeLine : sheet (freeLine s) = sheet s := rfl
@[simp] theorem sheet_enterPreparing (k : PowerCause) : sheet (enterPreparing k s) = sheet s := by
  simp [enterPreparing]
@[simp] theorem sheet_wake (k : PowerCause) : sheet (wake k s) = sheet s := rfl
@[simp] theorem sheet_requestCensus : sheet (requestCensus s) = sheet s := rfl
@[simp] theorem sheet_endCensus : sheet (endCensus s) = sheet s := by simp [endCensus, sheet_ite]
@[simp] theorem sheet_nextStep (k : CensusStep) : sheet (nextStep k s) = sheet s := rfl
@[simp] theorem sheet_statusFailed : sheet (statusFailed a s) = sheet s := by simp [statusFailed]
@[simp] theorem sheet_bindingFailed (x : Serial) : sheet (bindingFailed a x s) = sheet s := by simp [bindingFailed]
@[simp] theorem sheet_assignAnswered (x : Serial) : sheet (assignAnswered a x s) = sheet s := rfl
@[simp] theorem sheet_assignFailed : sheet (assignFailed a s) = sheet s := by simp [assignFailed]
@[simp] theorem sheet_takeQuery (b : Bool) (w : Byte) : sheet (takeQuery b w s) = sheet s := by
  unfold takeQuery; dsimp only; repeat' split
  all_goals rfl
@[simp] theorem sheet_dormantReached : sheet (dormantReached s) = sheet s := by simp [dormantReached, sheet_ite]
@[simp] theorem sheet_lineSettled : sheet (lineSettled s) = sheet s := by
  simp [lineSettled, requestResetCensus, sheet_ite]
theorem sheet_pickFree {α : Type} (l : List α) : sheet (pickFree l s).2 = sheet s := by
  unfold pickFree; split <;> rfl

/-! ## The arbiter and the transmitter -/

@[simp] theorem sheet_sendPending (sl : SlotNo) (x : Command) : sheet (sendPending c a sl x s) = sheet s := by
  unfold sendPending; dsimp only; split <;> simp [sheet_ite]
@[simp] theorem sheet_servePosting (l : List ChamberNo) : sheet (servePosting l s) = sheet s := by
  induction l generalizing s with
  | nil => rfl
  | cons d l ih => unfold servePosting; split <;> simp [ih]
@[simp] theorem sheet_choiceCommand : sheet (choiceCommand s) = sheet s := by
  unfold choiceCommand; split
  · rfl
  · simp
@[simp] theorem sheet_choiceQuery : sheet (choiceQuery s) = sheet s := by simp [choiceQuery, startQuery, sheet_ite]
@[simp] theorem sheet_startStep : sheet (startStep s) = sheet s := by
  unfold startStep; dsimp only; split <;> rfl
@[simp] theorem sheet_choiceCensus : sheet (choiceCensus s) = sheet s := by
  have h := sheet_pickFree s s.bindingsPending
  unfold choiceCensus; split
  · next heq => rw [heq] at h; exact h
  · next heq =>
    rw [heq] at h
    split
    · exact h
    · exact h
    · simpa using h
@[simp] theorem sheet_choiceMeasure : sheet (choiceMeasure s) = sheet s := by
  unfold choiceMeasure; repeat' split
  all_goals rfl
@[simp] theorem sheet_choiceLast : sheet (choiceLast s) = sheet s := by simp [choiceLast, startQuery, sheet_ite]
theorem sheet_orElseTurn (f : State → State) (h : ∀ s, sheet (f s) = sheet s) :
    sheet (orElseTurn f s) = sheet s := by simp [orElseTurn, h, sheet_ite]
@[simp] theorem sheet_arbitrate : sheet (arbitrate s) = sheet s := by
  unfold arbitrate; repeat' split
  all_goals simp [choose, sheet_orElseTurn]
@[simp] theorem sheet_kickTx : sheet (kickTx s) = sheet s := by
  obtain ⟨busy, outbox, tx, h, -⟩ := kickTx_spec s
  rw [h]; rfl
@[simp] theorem sheet_settle : sheet (settle s) = sheet s := by simp [settle]

/-! ## Requests on chambers, stations, the line and the site -/

@[simp] theorem sheet_placeConfig (g : ChamberConfig) : sheet (placeConfig c g s) = sheet s := by
  unfold placeConfig; dsimp only; split <;> simp [sheet_ite]
@[simp] theorem sheet_dropBindingOf : sheet (dropBindingOf st s) = sheet s := by
  unfold dropBindingOf; split <;> simp
@[simp] theorem sheet_bindAddressed (n : Serial) : sheet (bindAddressed st n s) = sheet s := by
  unfold bindAddressed; split <;> simp [sheet_ite]
@[simp] theorem sheet_releaseRecords (n : Nat) : sheet (releaseRecords n s) = sheet s := by
  unfold releaseRecords; dsimp only; split <;> rfl
@[simp] theorem sheet_resetTurns : sheet (resetTurns s) = sheet s := rfl
@[simp] theorem sheet_resetChambers : sheet (resetChambers s) = sheet s := by
  unfold resetChambers; dsimp only
  rw [sheet_eachOf _ _ fun x s => sheet_clearInflight s x, sheet_eachOf _ _ fun x s => sheet_clearSlot s x,
    sheet_eachOf _ _ fun x s => sheet_setAccess s x _]
@[simp] theorem sheet_resetTable : sheet (resetTable s) = sheet s := rfl
@[simp] theorem sheet_resetPower : sheet (resetPower s) = sheet s := by
  unfold resetPower; split <;> rfl
@[simp] theorem sheet_resetFollow : sheet (resetFollow s) = sheet s := by
  unfold resetFollow; dsimp only; split <;> rfl
@[simp] theorem sheet_resetNotices (old : Vector (Option LineEntry) 16) : sheet (resetNotices old s) = sheet s := by
  unfold resetNotices
  rw [sheet_eachOf _ _ fun a s => by split <;> rfl]
  simp
@[simp] theorem sheet_quietWritten : sheet (quietWritten s) = sheet s := by simp [quietWritten, sheet_ite]
@[simp] theorem sheet_writeSite (f : SiteFields) (x : FractionSet) : sheet (writeSite f x s) = sheet s := by
  have hw : ∀ t : State, sheet (t.onRet fun r => { r with settings := writeSettings f x r.settings }) = sheet t :=
    fun _ => rfl
  simp [writeSite, hw, sheet_ite]

end

end Sys2Proof.Machine
end

section
/-! PROOFS. Threshold evaluation, visits, lifts, presentations and the ends of transactions keep the round list tidy (R111). -/

namespace Sys2Proof.Machine

@[simp] theorem tidy_ite {p : Prop} [Decidable p] {x y : State} :
    (sheet (if p then x else y)).Tidy ↔ (p → (sheet x).Tidy) ∧ (¬ p → (sheet y).Tidy) := by
  split <;> simp [*]

theorem tidy_eachOf {α : Type} {f : α → State → State} (hf : ∀ x s, (sheet s).Tidy → (sheet (f x s)).Tidy)
    (l : List α) {s : State} (h : (sheet s).Tidy) : (sheet (eachOf l f s)).Tidy := by
  induction l generalizing s with
  | nil => exact h
  | cons x l ih => exact ih (hf x s h)

section
variable {s : State} (h : (sheet s).Tidy) (c : ChamberNo) (st : StationNo) (a : AddrNo) (p : Fin 4)
include h

/-! ## Threshold evaluation (R33 to R36) -/

@[simp] theorem tidy_withdrawalStep (g : ChamberConfig) : (sheet (withdrawalStep g c s)).Tidy := by
  unfold withdrawalStep
  refine tidy_ite.2 ⟨fun _ => tidy_clearFlag ?_ c, fun _ => h⟩
  split <;> simp [h]

@[simp] theorem tidy_offerStep (g : ChamberConfig) : (sheet (offerStep g c s)).Tidy := by
  unfold offerStep
  split
  · next hoffer => exact tidy_takeOffer h c (Option.isNone_iff_eq_none.1 hoffer.2.1) hoffer.2.2 _
  · exact h

@[simp] theorem tidy_evaluate : (sheet (evaluate c s)).Tidy := by
  unfold evaluate
  split
  · exact h
  · next g _ =>
    have hoffer := tidy_offerStep (tidy_withdrawalStep (s := accessStep g c s) (by simpa using h) c g) c g
    simp [promotionStep, hoffer]

@[simp] theorem tidy_depositStep : (sheet (depositStep c s)).Tidy :=
  tidy_ite.2 ⟨fun _ => h, fun _ => tidy_evaluate (by exact h) c⟩

@[simp] theorem tidy_takeReading (t q : Nat) (x : Int) : (sheet (takeReading c t q x s)).Tidy := by
  unfold takeReading; dsimp only; split
  · exact h
  · exact tidy_ite.2 ⟨fun _ => tidy_evaluate (by exact h) c, fun _ => h⟩

/-! ## Entries in visits, and visits that close (R121, R130, R132) -/

@[simp] theorem tidy_entryWaits (b : Bool) : (sheet (entryWaits c b s)).Tidy := by
  have hwaits := tidy_rewriteEntry h c (fun e => { e with state := .waiting, skips := if b then min 15 (e.skips + 1) else e.skips })
    (fun _ => rfl) (fun _ => rfl)
  exact tidy_ite.2 ⟨fun _ => tidy_promote hwaits c, fun _ => hwaits⟩

@[simp] theorem tidy_entryInVisit : (sheet (entryInVisit c st s)).Tidy :=
  tidy_rewriteEntry h c _ (fun _ => rfl) (fun _ => rfl)

@[simp] theorem tidy_closeInvolved (i : Involved) : (sheet (closeInvolved i s)).Tidy := by
  unfold closeInvolved; dsimp only
  split
  · exact h
  split
  · simp [h]
  split
  · split <;> simp [h]
  · simp [h]

@[simp] theorem tidy_closeVisit (o : VisitOutcome) : (sheet (closeVisit p o s)).Tidy := by
  unfold closeVisit
  split
  · exact h
  · exact tidy_eachOf (fun i s h => tidy_closeInvolved h i) _ h

@[simp] theorem tidy_checkComplete : (sheet (checkComplete p s)).Tidy := by
  unfold checkComplete; split <;> simp [h]

theorem tidy_finishPhase (ph : Phase) {f : State → State} (hf : ∀ t, (sheet t).Tidy → (sheet (f t)).Tidy) :
    (sheet (finishPhase c ph f s)).Tidy := by
  unfold finishPhase
  split
  · exact hf s h
  · exact tidy_checkComplete (hf _ (by simp [h])) _

@[simp] theorem tidy_visitLeft : (sheet (visitLeft st s)).Tidy := by
  unfold visitLeft
  split
  · exact h
  split
  · exact h
  · exact tidy_closeVisit (tidy_eachOf (fun i s h => by simp [h]) _ h) _ _

@[simp] theorem tidy_involve : (sheet (involve st c s)).Tidy := by simp [involve, h]

@[simp] theorem tidy_openVisit (n : CardNo) (m : VisitMode) : (sheet (openVisit p st n m s)).Tidy := by
  simp only [openVisit, sheet_abandonPreparation, sheet_post]
  exact tidy_eachOf (fun c s h => tidy_involve h c st) _ h

@[simp] theorem tidy_takeCrew (n : CardNo) (m : VisitMode) : (sheet (takeCrew st c n m s)).Tidy := by
  unfold takeCrew
  split
  · simp [h]
  · split <;> simp [h]

/-! ## Sessions, presentations, lifts and emptying -/

@[simp] theorem tidy_closeSession (o : Option JournalOutcome) (drain : Bool) :
    (sheet (closeSession c o drain s)).Tidy := by
  have hdeposit : ∀ t : State, (sheet t).Tidy → (sheet (countDeposit c o t)).Tidy := fun t ht => by
    unfold countDeposit; split <;> simp [ht]
  unfold closeSession
  split
  · exact h
  · simp [hdeposit, h]

@[simp] theorem tidy_takeCard (o : Option StationNo) (sl : SlotNo) (n : CardNo) : (sheet (takeCard o sl n s)).Tidy := by
  unfold takeCard; repeat' split
  all_goals simp [h]

@[simp] theorem tidy_takeHatch (o : Option StationNo) (sl : SlotNo) (r : Byte) : (sheet (takeHatch o sl r s)).Tidy := by
  unfold takeHatch; split
  · exact h
  · split <;> simp [h]

@[simp] theorem tidy_openByFill : (sheet (openByFill c s)).Tidy := by simp [openByFill, h]

@[simp] theorem tidy_returnToService : (sheet (returnToService c s)).Tidy := by
  unfold returnToService; split <;> simp [h]

@[simp] theorem tidy_emptyChamber : (sheet (emptyChamber c s)).Tidy := by
  unfold emptyChamber; dsimp only
  have hclear : (sheet (setCandidate c false (((post (.chamber c) (s.onEstimate c Estimate.emptied)).onChamber c
      fun ch => { ch with liftMark := none }).setReturn c none))).Tidy := tidy_clearFlag (by exact h) c
  refine tidy_evaluate ?_ c
  simp only [sheet_setAccess, sheet_onChamber, sheet_postCommand]
  exact tidy_removeEntry hclear c

@[simp] theorem tidy_visitEmptied : (sheet (visitEmptied c p s)).Tidy := by
  unfold visitEmptied; split <;> simp [h]

@[simp] theorem tidy_takeLift (o : Option StationNo) (sl : SlotNo) (r : Byte) : (sheet (takeLift o sl r s)).Tidy := by
  have hemptied : ∀ c, (sheet (emptied c s)).Tidy := fun c =>
    tidy_eachOf (fun p s h => tidy_visitEmptied h c p) _ (tidy_emptyChamber h c)
  have hout : ∀ c, (sheet (takeOut c s)).Tidy := fun c => by
    unfold takeOut; split <;> simp [liftUnscheduled, liftEarly, h]
  have hin : ∀ c, (sheet (takeIn c s)).Tidy := fun c => by
    unfold takeIn; split <;> simp [hemptied, h]
  unfold takeLift; split <;> simp [hout, hin, h]

@[simp] theorem tidy_takeEcho (o : Option StationNo) (sl : SlotNo) (t q : Nat) (x : Int) :
    (sheet (takeEcho o sl t q x s)).Tidy := by
  unfold takeEcho; dsimp only; repeat' split
  · exact h
  · exact h
  · simp [h]
  · exact tidy_takeReading (by exact h) ..
  · exact h

theorem tidy_handOver (o : Option StationNo) (r : AttnRecord) : (sheet (handOver o r s)).Tidy := by
  have hq : (sheet (if s.main.line.power.state = .active then setQuiet s else s)).Tidy := by simp [h]
  cases r with
  | lift sl report => exact tidy_takeLift hq o sl report
  | hatch sl report => exact tidy_takeHatch hq o sl report
  | card sl number => exact tidy_takeCard hq o sl number
  | echo sl t q temp => exact tidy_takeEcho h ..

theorem tidy_readAnswered (r : Option AttnRecord) : (sheet (readAnswered a r s)).Tidy := by
  cases r with
  | none => exact h
  | some r => exact tidy_handOver (s := delivered a s) h _ r

theorem tidy_lockEnded (b : Bool) : (sheet (lockEnded c b s)).Tidy := by
  unfold lockEnded; split
  · exact tidy_ite.2 ⟨fun _ => by simp [h], fun _ => tidy_finishPhase (by simp [h]) c _ fun t ht => by simp [ht]⟩
  all_goals simp [h]

theorem tidy_returnPassed : (sheet (returnPassed c s)).Tidy := by
  unfold returnPassed; split
  · exact tidy_finishPhase (by simp [h]) c _ fun _ ht => ht
  all_goals exact h

/-! ## Nodes that go and come, and the census -/

@[simp] theorem tidy_stationOut : (sheet (stationOut st s)).Tidy := by
  refine tidy_visitLeft (tidy_eachOf (fun c s h => tidy_closeSession h c _ _) _ ?_) st
  exact tidy_eachOf (fun c s h => by simp [h]) _ (by simpa using h)

@[simp] theorem tidy_loseNode (x : Serial) : (sheet (loseNode a st x s)).Tidy := by simp [loseNode, h]

theorem tidy_takeOutEntry : (sheet (takeOutEntry a s)).Tidy := by
  unfold takeOutEntry; split
  · exact h
  · split <;> simp [h]

theorem tidy_countMiss (b : Bool) : (sheet (countMiss a b s)).Tidy := by
  unfold countMiss; split
  · exact h
  dsimp only; split
  · exact tidy_ite.2 ⟨fun _ => tidy_loseNode (by exact h) .., fun _ => h⟩
  · simp [h]

theorem tidy_takeContend (b : Bool) (x : Serial) : (sheet (takeContend b x s)).Tidy := by
  unfold takeContend; dsimp only
  refine tidy_ite.2 ⟨fun _ => by simp [h], fun _ => ?_⟩
  split <;> split <;> simp [tidy_takeOutEntry, h]

@[simp] theorem tidy_bringOnline (x : StatusAnswer) : (sheet (bringOnline a st x s)).Tidy := by
  refine tidy_eachOf (fun c s h => ?_) _ (by exact h)
  unfold reconcileChamber; dsimp only
  split
  · exact h
  · refine tidy_ite.2 ⟨fun _ => h, fun _ => ?_⟩
    split <;> simp [h]

theorem tidy_statusAnswered (x : StatusAnswer) : (sheet (statusAnswered a x s)).Tidy := by
  unfold statusAnswered; split <;> simp [h]

theorem tidy_bindingAnswered (x : StatusAnswer) : (sheet (bindingAnswered a st x s)).Tidy := by
  simp [bindingAnswered, h]

/-! ## The ends of transactions -/

theorem tidy_endTurn (b : Bool) : (sheet (endTurn a b s)).Tidy := by
  rw [endTurn, sheet_settle]
  exact tidy_countMiss h a b

theorem tidy_endUnlock (b : Bool) : (sheet (endUnlock c a b s)).Tidy := by
  have hended : ∀ t, (sheet t).Tidy → (sheet (unlockEnded c b t)).Tidy := fun t ht => by
    unfold unlockEnded; split <;> simp [ht]
  exact tidy_endTurn (hended _ (by exact h)) a b

theorem tidy_endDeny (b : Bool) : (sheet (endDeny c a b s)).Tidy := tidy_endTurn (by exact h) a b

theorem tidy_endLock (b : Bool) : (sheet (endLock c a b s)).Tidy := tidy_endTurn (tidy_lockEnded (by exact h) c b) a b

theorem tidy_endRelease (b : Bool) : (sheet (endRelease c a b s)).Tidy := tidy_endTurn (by simpa using h) a b

theorem tidy_endMeasure (b : Bool) : (sheet (endMeasure st a b s)).Tidy := tidy_endTurn (by simpa using h) a b

theorem tidy_endAssign (b : Bool) : (sheet (endAssign a b s)).Tidy := by simp [endAssign, h]

theorem tidy_endStatusFailed : (sheet (endStatusFailed a s)).Tidy := tidy_endTurn (by simpa using h) a false

theorem tidy_endBindingFailed : (sheet (endBindingFailed a s)).Tidy := by
  unfold endBindingFailed; split
  · exact tidy_endTurn (by simpa using h) a false
  · exact tidy_endTurn h a false

theorem tidy_failTransaction : (sheet (failTransaction s)).Tidy := by
  unfold failTransaction; split
  · split
    · exact tidy_endUnlock h ..
    · exact tidy_endDeny h ..
    · exact tidy_endLock h ..
    · exact tidy_endRelease h ..
    · exact h
  · exact tidy_endMeasure h ..
  · exact tidy_endTurn h ..
  · exact tidy_endAssign h ..
  · exact tidy_endStatusFailed h _
  · exact tidy_endBindingFailed h _
  · exact h

theorem tidy_takeExpiry : (sheet (takeExpiry s)).Tidy := by
  unfold takeExpiry; split <;> simp [tidy_failTransaction, h]

theorem tidy_takeCommandEnd (p : Command → Bool) {f : ChamberNo → AddrNo → Bool → State → State}
    (hf : ∀ c a b, (sheet (f c a b s)).Tidy) (e : TxnEnd) : (sheet (takeCommandEnd p f e s)).Tidy := by
  unfold takeCommandEnd; repeat' split
  all_goals simp only [h, hf]

theorem tidy_takeMeasureEnd (e : TxnEnd) : (sheet (takeMeasureEnd e s)).Tidy := by
  unfold takeMeasureEnd; repeat' split
  all_goals simp only [h, tidy_endMeasure]

theorem tidy_takeReadEnd (e : TxnEnd) : (sheet (takeReadEnd e s)).Tidy := by
  unfold takeReadEnd; repeat' split
  · exact tidy_endTurn h ..
  · exact tidy_endTurn (tidy_readAnswered h ..) ..
  all_goals exact h

theorem tidy_takeAssignEnd (e : TxnEnd) : (sheet (takeAssignEnd e s)).Tidy := by
  unfold takeAssignEnd; repeat' split
  all_goals simp only [h, tidy_endAssign]

theorem tidy_takeStatusEnd (e : StatusEnd) : (sheet (takeStatusEnd e s)).Tidy := by
  unfold takeStatusEnd; repeat' split
  · exact tidy_endStatusFailed h _
  · exact tidy_endTurn (tidy_statusAnswered h ..) ..
  all_goals exact h

theorem tidy_takeBindingEnd (e : StatusEnd) : (sheet (takeBindingEnd e s)).Tidy := by
  have hok : ∀ a x, (sheet (endBindingAnswered a x s)).Tidy := fun a x => by
    unfold endBindingAnswered; split
    · exact tidy_endTurn (tidy_bindingAnswered h ..) ..
    · exact tidy_endTurn h ..
  unfold takeBindingEnd; repeat' split
  all_goals simp only [h, hok, tidy_endBindingFailed]

theorem tidy_endCast (k : TurnKind) {f : State → State} (hf : (sheet (f s)).Tidy) : (sheet (endCast k f s)).Tidy := by
  simp [endCast, hf, h]

/-! ## Deadlines and line power -/

theorem tidy_guardReached : (sheet (guardReached c s)).Tidy := by
  unfold guardReached; split
  · exact h
  · exact tidy_ite.2 ⟨fun _ => h, fun _ => by rw [sheet_settle]; exact tidy_closeSession (by exact h) ..⟩

theorem tidy_visitReached : (sheet (visitReached st s)).Tidy := by
  unfold visitReached; repeat' split
  · exact h
  · exact h
  · rw [sheet_settle]; exact tidy_closeVisit (by exact h) ..

theorem tidy_returnReached : (sheet (returnReached c s)).Tidy := by
  unfold returnReached; split
  · exact h
  · rw [sheet_settle]; exact tidy_returnPassed (by exact h) c

theorem tidy_timeoutReached : (sheet (timeoutReached st s)).Tidy := by
  unfold timeoutReached; repeat' split
  all_goals simp [h]

theorem tidy_periodReached : (sheet (periodReached s)).Tidy := by
  unfold periodReached; split
  · exact h
  · split <;> simp [h]

theorem tidy_quietReached : (sheet (quietReached s)).Tidy := by
  unfold quietReached; split <;> simp [h]

theorem tidy_dormantLimitReached : (sheet (dormantLimitReached s)).Tidy := by
  unfold dormantLimitReached; split <;> simp [h]

theorem tidy_pulseRead (n : Nat) : (sheet (pulseRead n s)).Tidy := by simp [pulseRead, h]

theorem tidy_settleReached : (sheet (settleReached s)).Tidy := by simp [settleReached, h]

end

end Sys2Proof.Machine
end

section
/-! PROOFS. Every step keeps the round list tidy (R111). -/

namespace Sys2Proof.Machine

/-! ## Requests -/

section
variable {s : State} (h : (sheet s).Tidy) (c : ChamberNo) (st : StationNo)
include h

theorem tidy_configure (g : ChamberConfig) : (sheet (configure c g s)).Tidy := by
  have hset : (sheet (settleAccess c g ((placeConfig c g s).onEstimate c
      (Estimate.reconfigured g.capacity g.drum)))).Tidy := by
    have hplaced : (sheet (placeConfig c g s)).Tidy := by simpa using h
    unfold settleAccess
    exact tidy_ite.2 ⟨fun _ => by simp [h], fun _ => tidy_returnToService (by exact hplaced) c⟩
  have hrewritten := tidy_rewriteEntry hset c (fun e => { e with fraction := g.fraction }) (fun _ => rfl) (fun _ => rfl)
  unfold configure; dsimp only
  rw [sheet_arbitrate, sheet_post]
  exact tidy_evaluate (by exact hrewritten) c

theorem tidy_unconfigure (g : ChamberConfig) : (sheet (unconfigure c g s)).Tidy := by
  unfold unconfigure; dsimp only
  rw [sheet_arbitrate, sheet_post]
  exact tidy_removeEntry (tidy_clearFlag (by simpa using h) c) c

theorem tidy_unbindOnline (a : AddrNo) : (sheet (unbindOnline st a s)).Tidy := tidy_stationOut (by exact h) st

theorem tidy_rebind (n : Option Serial) : (sheet (rebind st n s)).Tidy := by
  unfold rebind; dsimp only
  rw [sheet_arbitrate]
  split
  all_goals
    simp only [sheet_bindAddressed, sheet_onStation, sheet_dropBindingOf]
    split
    · exact tidy_unbindOnline h st _
    · exact h

theorem tidy_takeRoundAdd (b u : Byte) : (sheet (takeRoundAdd b u s).1).Tidy := by
  unfold takeRoundAdd
  split
  case h_2 => exact h
  case h_1 c u _ _ =>
    split
    · exact h
    split
    · have hforced := tidy_rewriteEntry h c (fun e => { e with forced := true }) (fun _ => rfl) (fun _ => rfl)
      exact tidy_ite.2 ⟨fun _ => tidy_promote hforced c, fun _ => hforced⟩
    split
    · exact h
    · next hnew hroom =>
      have hsheet := sheet_setCandidate s c false
      have hround : (setCandidate c false s).ret.round = s.ret.round := congrArg Sheet.entries hsheet
      refine tidy_makeEntry (tidy_clearFlag h c) c (by rw [hround]; exact Nat.not_le.1 hroom) ?_ ?_ _ _
      · rw [State.roundEntry, hround]; exact Option.not_isSome_iff_eq_none.1 hnew
      · exact (congrArg (look ·.flags c) hsheet).trans (look_put_same ..)

theorem tidy_expireVisits (n : Nat) : (sheet (expireVisits n s)).Tidy := by
  induction n generalizing s with
  | zero => exact h
  | succ n ih =>
    have hs := sheet_pickFree s ((indexes 4).filter fun p => (look s.ret.visits p).isSome)
    unfold expireVisits; split
    · next heq => rw [heq] at hs; exact ih (tidy_closeVisit (hs ▸ h) _ _)
    · next heq => rw [heq] at hs; exact hs ▸ h

theorem tidy_resetLine : (sheet (resetLine s)).Tidy := by
  have hclosed : (sheet (resetSessions (resetChambers (resetTurns s)))).Tidy :=
    tidy_eachOf (fun c _ h => tidy_closeSession h c _ _) _ (by simpa using h)
  simpa [resetLine] using tidy_expireVisits hclosed 4

/-- Whatever a request does, the round list stays tidy. -/
theorem tidy_act (r : Request) : (sheet (act r s).1).Tidy := by
  cases r <;> simp only [act]
  case siteSet f => unfold takeSiteSet; split <;> simp [h]
  case cardPut f => unfold takeCardPut; dsimp only; repeat' split
                    all_goals exact h
  case cardAmend m f => unfold takeCardAmend; dsimp only; repeat' split
                        all_goals exact h
  case cardGet n => unfold takeCardGet; repeat' split
                    all_goals exact h
  case cardRemove n => unfold takeCardRemove; repeat' split
                       all_goals exact h
  case accountPut i f => unfold takeAccountPut; repeat' split
                         all_goals exact h
  case accountAmend i m f => unfold takeAccountAmend; repeat' split
                             all_goals exact h
  case accountGet i => unfold takeAccountGet; split <;> exact h
  case groupWrite f => unfold takeGroupWrite; dsimp only; split <;> exact h
  case classPut i f => unfold takeClassPut; split <;> exact h
  case classGet i => unfold takeClassGet; split <;> exact h
  case chamberSet b f => unfold takeChamberSet; dsimp only; repeat' split
                         all_goals simp only [h, tidy_configure]
  case chamberGet b => unfold takeChamberGet; split <;> exact h
  case chamberClear b => unfold takeChamberClear; repeat' split
                         all_goals simp only [h, tidy_unconfigure]
  case profilePut p f => unfold takeProfilePut; repeat' split
                         all_goals exact h
  case profileGet p => unfold takeProfileGet; split <;> exact h
  case stationBind b n => unfold takeStationBind; repeat' split
                          all_goals simp only [h, tidy_rebind]
  case stationGet b => unfold takeStationGet; split <;> exact h
  case roundAdd b u => exact tidy_takeRoundAdd h b u
  case roundDrop b => unfold takeRoundDrop; repeat' split
                      all_goals simp only [h, tidy_removeEntry]
  case journalRelease n x => unfold takeJournalRelease; dsimp only; split <;> simp [h]
  case lineCensus => unfold takeLineCensus; dsimp only; repeat' split
                     all_goals simp [h]
  case lineSweep => unfold takeLineSweep; dsimp only; split <;> simp [h]
  case lineDormant => unfold takeLineDormant; dsimp only; repeat' split
                      all_goals simp [h]
  case lineWake => unfold takeLineWake; dsimp only; split <;> simp [h]
  case lineReset => simpa [takeLineReset] using tidy_resetLine h
  all_goals exact h

/-! ## The host link -/

theorem tidy_takeHead : (sheet (takeHead s)).Tidy := by
  unfold takeHead; split
  · exact tidy_act h _
  · exact h

theorem tidy_busyReply (kind tag : Byte) (r : Result) : (sheet (busyReply kind tag r s)).Tidy := by
  simp [busyReply, h]

theorem tidy_enqueue (tag : Byte) (r : Request) : (sheet (enqueue tag r s)).Tidy := by
  unfold enqueue
  exact tidy_ite.2 ⟨fun _ => tidy_ite.2 ⟨fun _ => tidy_takeHead (by exact h), fun _ => h⟩,
    fun _ => tidy_busyReply h ..⟩

theorem tidy_receive (b : Byte) : (sheet (receive b s)).Tidy := by
  unfold receive takeFrame; dsimp only; split
  · rw [sheet_kickTx]; split
    · exact tidy_busyReply (by exact h) ..
    · exact tidy_busyReply (by exact h) ..
    · exact tidy_enqueue (by exact h) ..
  · exact h

theorem tidy_arrive (tag : Byte) (r : Request) : (sheet (arrive tag r s)).Tidy := by
  unfold arrive
  exact tidy_ite.2 ⟨fun _ => h, fun _ => by rw [sheet_kickTx]; exact tidy_enqueue h tag r⟩

theorem tidy_replySent : (sheet (replySent s)).Tidy := by
  unfold replySent; split
  · exact h
  · exact tidy_ite.2 ⟨fun _ => by exact h, fun _ => tidy_takeHead (by exact h)⟩

theorem tidy_txEnded : (sheet (txEnded s)).Tidy := by
  unfold txEnded; split
  · exact h
  · dsimp only; split
    · rw [sheet_kickTx]; exact tidy_replySent (by exact h)
    all_goals simp [h]

end

/-! ## Supplies and starts -/

/-- A list without candidates is tidy where it was tidy with some. -/
theorem Sheet.Tidy.cleared {r : Sheet} (h : r.Tidy) : Sheet.Tidy { r with flags := Vector.replicate 64 false } where
  room := h.room
  once := h.once
  urgentFirst := h.urgentFirst
  unflagged := fun _ _ => look_replicate ..

theorem tidy_mainLost {s : State} (h : (sheet s).Tidy) : (sheet (mainLost s)).Tidy := h.cleared

/-- The cold list is empty (R185). -/
theorem tidy_cold {s : State} (h : s.ret = Retained.cold) : (sheet s).Tidy := by
  have hempty : (sheet s).entries = [] := by rw [sheet, h]; rfl
  constructor <;> simp [hempty]

theorem tidy_foldl {stages : List (State → State)} (hf : ∀ f ∈ stages, ∀ s, (sheet s).Tidy → (sheet (f s)).Tidy)
    {s : State} (h : (sheet s).Tidy) : (sheet (stages.foldl (fun s f => f s) s)).Tidy := by
  induction stages generalizing s with
  | nil => exact h
  | cons f l ih =>
    obtain ⟨hfirst, hrest⟩ := List.forall_mem_cons.1 hf
    exact ih hrest (hfirst s h)

/-- A start whose stages each keep the list tidy keeps it so, also where it is cut. -/
theorem tidy_runStages {stages : List (State → State)} (hf : ∀ f ∈ stages, ∀ s, (sheet s).Tidy → (sheet (f s)).Tidy)
    (cut : Option Nat) {s : State} (h : (sheet s).Tidy) : (sheet (runStages cut stages s)).Tidy := by
  unfold runStages
  split
  · exact tidy_foldl hf h
  · exact tidy_ite.2 ⟨fun _ => tidy_mainLost (tidy_foldl (fun f hm => hf f (List.mem_of_mem_take hm)) h),
      fun _ => tidy_foldl hf h⟩

theorem tidy_serve {s : State} (h : (sheet s).Tidy) : (sheet (serve s)).Tidy := by simp [serve, h]

theorem tidy_allWaiting {s : State} (h : (sheet s).Tidy) : (sheet (allWaiting s)).Tidy := by
  rw [allWaiting, sheet_changeRound]
  exact h.rewritten _ (fun _ => rfl) (fun _ => rfl)

/-- Each stage of a warm start keeps the list tidy: it begins without candidates (R134, R186). -/
theorem tidy_warmStages (kind : StartKind) : ∀ f ∈ warmStages kind, ∀ s, (sheet s).Tidy → (sheet (f s)).Tidy := by
  intro f hf s h
  simp only [warmStages, List.mem_append, List.mem_cons, List.mem_map, List.not_mem_nil, or_false] at hf
  rcases hf with (((((rfl | ⟨c, -, rfl⟩) | rfl) | ⟨c, -, rfl⟩) | rfl) | ⟨c, -, rfl⟩) | rfl | rfl | rfl
  · exact h.cleared
  · exact tidy_closeSession h c (some .unconfirmed) false
  · simp [warmJournal, h]
  · simp [warmReconcile, sheet_ite, h]
  · exact tidy_eachOf (fun c s h => tidy_clearFlag h c) _ (tidy_allWaiting h)
  · exact tidy_evaluate h c
  · exact tidy_allWaiting (by exact h)
  · simp [warmLine, h]
  · exact h

theorem tidy_warmStart {s : State} (h : (sheet s).Tidy) (kind : StartKind) (cut : Option Nat) :
    (sheet (warmStart kind cut s)).Tidy :=
  tidy_serve (tidy_runStages (tidy_warmStages kind) cut h)

/-- A cold start that ends leaves the retained domain cold; one that is cut leaves it without its marker (R185). -/
theorem tidy_coldStart {cut : Option Nat} {s : State} (hk : Known (coldStart cut s)) :
    (sheet (coldStart cut s)).Tidy := by
  have hcold : ∀ t, (sheet (serve (coldMarker (coldDefaults t)))).Tidy := fun t =>
    tidy_serve (s := coldMarker (coldDefaults t)) (tidy_cold (s := coldDefaults t) rfl)
  have hcut : ∀ t : State, t.marker = false → ¬ Known (serve (mainLost t)) := fun t ht hk => by
    rcases hk with hk | hk
    · cases hk
    · rw [show (serve (mainLost t)).marker = t.marker from rfl, ht] at hk; cases hk
  match cut with
  | none => exact hcold _
  | some 0 => exact absurd hk (hcut _ rfl)
  | some 1 => exact absurd hk (hcut _ rfl)
  | some (n + 2) =>
    have hrun : runStages (some (n + 2)) coldStages { s with marker := false } =
        coldMarker (coldDefaults { s with marker := false }) := by simp [runStages, coldStages]
    rw [coldStart, hrun]
    exact hcold _

/-! ## Every step keeps the list tidy -/

/-- The list is tidy wherever the retained domain counts as known. -/
def SheetLaw (s : State) : Prop := Known s → (sheet s).Tidy

/-- A command that needs main power keeps the law where its effect keeps a tidy list so. -/
theorem sheetLaw_whilePowered {s t : State} {f : State → State} (h : SheetLaw s)
    (hf : (sheet s).Tidy → (sheet (f s)).Tidy) (ht : whilePowered f s = .next t) : SheetLaw t := by
  cases ht
  split
  · next hv => exact fun _ => hf (h (.inl hv))
  · exact h

theorem sheetLaw_arrive {s : State} (h : SheetLaw s) (tag : Byte) (r : Request) : SheetLaw (arrive tag r s) := by
  cases hv : s.vdd with
  | false => rw [arrive, if_pos (.inl hv)]; exact h
  | true => exact fun _ => tidy_arrive (h (.inl hv)) tag r

/-- A power-up is warm with the marker in place, and cold without it (R185). -/
theorem sheetLaw_execMainPowerUp {s t : State} (h : SheetLaw s) {good : Bool} {cut : Option Nat}
    (ht : execMainPowerUp good cut s = .next t) : SheetLaw t := by
  cases ht
  split
  · exact h
  split
  · next hm => exact fun _ => tidy_warmStart (s := mainRestored s) (h (.inr (Bool.and_eq_true_iff.1 hm).1)) _ cut
  · exact tidy_coldStart

theorem sheetLaw_execWarmStart {s t : State} (h : SheetLaw s) {cut : Option Nat}
    (ht : execWarmStart cut s = .next t) : SheetLaw t := by
  cases ht
  split
  · next hv =>
    split
    · exact fun _ => tidy_warmStart (h (.inl hv)) _ cut
    · exact h
  · split
    · next hm => exact fun _ => tidy_warmStart (s := mainRestored s) (h (.inr hm)) _ cut
    · exact h

theorem sheetLaw_exec {i : Instr} {s t : State} (h : SheetLaw s) (ht : exec i s = .next t) : SheetLaw t := by
  cases i
  case mainPowerUp => exact sheetLaw_execMainPowerUp h ht
  case warmStart => exact sheetLaw_execWarmStart h ht
  case mainPowerLoss =>
    cases ht; split
    · next hv => exact fun _ => tidy_mainLost (h (.inl hv))
    · exact h
  case partClockWrap => cases ht; split <;> exact h
  case backupSupplyLoss =>
    cases ht; split
    · exact h
    · next hv => exact fun hk => absurd hk (not_or.2 ⟨hv, Bool.false_ne_true⟩)
  case lineFrameDiscard => cases ht; exact h
  case hostFrameReceived bytes =>
    exact sheetLaw_whilePowered h (tidy_eachOf (fun b _ h => tidy_receive h b) bytes) ht
  case hostInterbyteTimeout => exact sheetLaw_whilePowered (f := fun s => s.onHost _) h id ht
  case transmitEnd => exact sheetLaw_whilePowered h tidy_txEnded ht
  case responseWindowExpiry => exact sheetLaw_whilePowered h tidy_takeExpiry ht
  case unlockEnd e => exact sheetLaw_whilePowered h (fun h => tidy_takeCommandEnd h _ (tidy_endUnlock h) e) ht
  case denyEnd e => exact sheetLaw_whilePowered h (fun h => tidy_takeCommandEnd h _ (tidy_endDeny h) e) ht
  case lockEnd e => exact sheetLaw_whilePowered h (fun h => tidy_takeCommandEnd h _ (tidy_endLock h) e) ht
  case releaseEnd e => exact sheetLaw_whilePowered h (fun h => tidy_takeCommandEnd h _ (tidy_endRelease h) e) ht
  case measureEnd e => exact sheetLaw_whilePowered h (tidy_takeMeasureEnd · e) ht
  case attnReadEnd e => exact sheetLaw_whilePowered h (tidy_takeReadEnd · e) ht
  case assignEnd e => exact sheetLaw_whilePowered h (tidy_takeAssignEnd · e) ht
  case statusEnd e => exact sheetLaw_whilePowered h (tidy_takeStatusEnd · e) ht
  case bindingStatusEnd e => exact sheetLaw_whilePowered h (tidy_takeBindingEnd · e) ht
  case attnQueryWindow b w => exact sheetLaw_whilePowered h (fun h => tidy_endCast h _ (by simp [h])) ht
  case contendWindow b x => exact sheetLaw_whilePowered h (fun h => tidy_endCast h _ (tidy_takeContend h b x)) ht
  case censusOpenSent => exact sheetLaw_whilePowered h (fun h => tidy_endCast h _ h) ht
  case dormantSent => exact sheetLaw_whilePowered h (fun h => tidy_endCast h _ (by simp [h])) ht
  case dropAddressSent => exact sheetLaw_whilePowered h (fun h => tidy_endCast h _ h) ht
  case guardDeadline c => exact sheetLaw_whilePowered h (tidy_guardReached · c) ht
  case visitDeadline st => exact sheetLaw_whilePowered h (tidy_visitReached · st) ht
  case returnDeadline c => exact sheetLaw_whilePowered h (tidy_returnReached · c) ht
  case measurementTimeout st => exact sheetLaw_whilePowered h (tidy_timeoutReached · st) ht
  case censusPeriodDeadline => exact sheetLaw_whilePowered h tidy_periodReached ht
  case quietDeadline => exact sheetLaw_whilePowered h tidy_quietReached ht
  case dormantDeadline => exact sheetLaw_whilePowered h tidy_dormantLimitReached ht
  case wakePulse n => exact sheetLaw_whilePowered h (tidy_pulseRead · n) ht
  case settleEnd => exact sheetLaw_whilePowered h tidy_settleReached ht
  all_goals
    rw [exec_of_request rfl] at ht
    cases ht
    exact sheetLaw_arrive h _ _

/-- Settles O54: the law says that the list is tidy where the retained domain is known, and each command, like a second on an
empty queue, keeps it so. -/
theorem stepKeepsRoundLaw : Obligations.StepKeepsRoundLaw := by
  intro s t hround ht
  have h : SheetLaw s := roundLaw_iff.1 hround
  refine roundLaw_iff.2 ?_
  unfold step at ht
  split at ht
  · next i rest _ => exact sheetLaw_exec (i := i) (s := { s with pending := rest }) h ht
  · cases ht
    unfold idle
    split
    · next hv => exact fun _ => by simp [h (.inl hv)]
    · split <;> exact h

end Sys2Proof.Machine
end

section
/-! PROOFS. What the operations on the round list make of each chamber's entry, and what they leave of the rest of the state
(R111 to R115). -/

namespace Sys2Proof.Machine

/-! ## What the operations leave -/

/-- An operation on the list moves the list, the candidate flags and the outbox alone. -/
def ListStep (s t : State) : Prop :=
  ∃ (round : List Entry) (flags : Vector Bool 64) (outbox : List OutboxKey),
    t = { s with ret := { s.ret with round := round }
                 main := { s.main with host := { s.main.host with outbox := outbox }, candidates := flags } }

namespace ListStep
variable {s t u : State} (h : ListStep s t)

theorem refl (s : State) : ListStep s s := ⟨_, _, _, rfl⟩

theorem trans (h : ListStep s t) (k : ListStep t u) : ListStep s u := by
  obtain ⟨_, _, _, rfl⟩ := h
  obtain ⟨_, _, _, rfl⟩ := k
  exact ⟨_, _, _, rfl⟩

include h

theorem ret : t.ret = { s.ret with round := t.ret.round } := by obtain ⟨_, _, _, rfl⟩ := h; rfl
theorem chamber (c : ChamberNo) : t.chamber c = s.chamber c := by obtain ⟨_, _, _, rfl⟩ := h; rfl
theorem access (c : ChamberNo) : t.access c = s.access c := by obtain ⟨_, _, _, rfl⟩ := h; rfl
theorem fill (c : ChamberNo) : t.fill c = s.fill c := by obtain ⟨_, _, _, rfl⟩ := h; rfl
theorem entryState (c : ChamberNo) : t.entryState c = s.entryState c := by obtain ⟨_, _, _, rfl⟩ := h; rfl
theorem now : t.now = s.now := by obtain ⟨_, _, _, rfl⟩ := h; rfl

theorem newEntry (c : ChamberNo) (g : ChamberConfig) (u : Urgency) (forced : Bool) :
    Machine.newEntry t c g u forced = Machine.newEntry s c g u forced := by
  obtain ⟨_, _, _, rfl⟩ := h; rfl

end ListStep

section
variable (s : State) (c : ChamberNo)

theorem changeRound_step (l : List Entry) : ListStep s (changeRound l s) := by
  unfold changeRound
  split
  · exact .refl s
  · exact ⟨_, _, _, rfl⟩

theorem rewriteEntry_step (f : Entry → Entry) : ListStep s (rewriteEntry c f s) := changeRound_step ..

theorem setCandidate_step (b : Bool) : ListStep s (setCandidate c b s) := by
  unfold setCandidate
  split
  · exact .refl s
  · exact ⟨_, _, _, rfl⟩

theorem makeEntry_step (u : Urgency) (forced : Bool) : ListStep s (makeEntry c u forced s) := by
  unfold makeEntry
  split
  · exact .refl s
  · exact changeRound_step ..

theorem admitCandidate_step : ListStep s (admitCandidate s) := by
  unfold admitCandidate
  split
  · exact .refl s
  · exact (setCandidate_step ..).trans (makeEntry_step ..)

theorem removeEntry_step : ListStep s (removeEntry c s) := by
  unfold removeEntry
  split
  · exact .refl s
  · exact (changeRound_step ..).trans (admitCandidate_step _)

theorem promote_step : ListStep s (promote c s) := by
  unfold promote; repeat' split
  · exact changeRound_step ..
  all_goals exact .refl s

theorem takeOffer_step (b : Bool) : ListStep s (takeOffer c b s) := by
  unfold takeOffer
  split
  · exact makeEntry_step ..
  split
  · exact ((changeRound_step ..).trans (setCandidate_step ..)).trans (makeEntry_step ..)
  · exact setCandidate_step ..

/-- The chamber's entry WAITING in its place, before a promotion. -/
def waitedInPlace (skip : Bool) : State :=
  rewriteEntry c (fun e => { e with state := .waiting, skips := if skip then min 15 (e.skips + 1) else e.skips }) s

theorem entryWaits_eq (skip : Bool) : entryWaits c skip s =
    if skip = true ∧ ((waitedInPlace s c skip).roundEntry c).any (fun e => e.skips = 3) = true then
      promote c (waitedInPlace s c skip) else waitedInPlace s c skip := rfl

theorem entryWaits_step (b : Bool) : ListStep s (entryWaits c b s) := by
  rw [entryWaits_eq]
  split
  · exact (rewriteEntry_step ..).trans (promote_step ..)
  · exact rewriteEntry_step ..

end

/-! ## Entries of a list -/

namespace Sheet

/-- The candidate flag of a chamber on the sheet. -/
def flag (r : Sheet) (c : ChamberNo) : Bool := look r.flags c

/-- The entry of a chamber on the sheet. -/
def entry (r : Sheet) (c : ChamberNo) : Option Entry := r.entries.find? (·.chamber = c)

theorem entry_eq_none {r : Sheet} {c : ChamberNo} : r.entry c = none ↔ ∀ e ∈ r.entries, e.chamber ≠ c := by
  simp [entry]

theorem Tidy.entry_eq_some {r : Sheet} (h : r.Tidy) {c : ChamberNo} {e : Entry} :
    r.entry c = some e ↔ e ∈ r.entries ∧ e.chamber = c := by
  constructor
  · exact fun he => ⟨List.mem_of_find?_eq_some he, by simpa using List.find?_some he⟩
  · rintro ⟨hmem, rfl⟩
    cases hf : r.entry e.chamber with
    | none => exact absurd rfl (entry_eq_none.1 hf e hmem)
    | some x =>
      have hx : x.chamber = e.chamber := by simpa using List.find?_some hf
      rw [List.inj_on_of_nodup_map h.once (List.mem_of_find?_eq_some hf) hmem hx]

theorem entry_map (r : Sheet) (c : ChamberNo) {f : Entry → Entry} (hf : ∀ e, (f e).chamber = e.chamber) :
    entry { r with entries := r.entries.map f } c = (r.entry c).map f := by
  unfold entry
  rw [List.find?_map]
  congr 2
  funext e
  simp [hf]

theorem entry_without (r : Sheet) (c o : ChamberNo) :
    entry { r with entries := withoutEntry c r.entries } o = if o = c then none else r.entry o := by
  unfold entry withoutEntry
  rw [List.find?_filter]
  split
  · next h => subst h; simp
  · next h =>
    congr 1
    funext e
    by_cases he : e.chamber = o <;> simp [he, h]

theorem Tidy.entry_joined {r : Sheet} {e : Entry} (h : Tidy { r with entries := joinClass e r.entries })
    (hr : r.Tidy) (o : ChamberNo) :
    entry { r with entries := joinClass e r.entries } o = if o = e.chamber then some e else r.entry o := by
  split
  · next ho => exact h.entry_eq_some.2 ⟨mem_joinClass.2 (.inl rfl), ho.symm⟩
  · next ho =>
    refine Option.ext fun x => ?_
    rw [h.entry_eq_some, hr.entry_eq_some, mem_joinClass]
    exact ⟨fun ⟨hx, hxo⟩ => ⟨hx.resolve_left fun hxe => ho (by rw [← hxo, hxe]), hxo⟩, fun ⟨hx, hxo⟩ => ⟨.inr hx, hxo⟩⟩

end Sheet

/-! ## Entries of a state -/

theorem roundEntry_eq_entry (s : State) (c : ChamberNo) : s.roundEntry c = (sheet s).entry c := rfl

theorem roundEntry_of_sheet {s t : State} (h : sheet t = sheet s) (c : ChamberNo) : t.roundEntry c = s.roundEntry c :=
  congrArg (Sheet.entry · c) h

theorem candidate_of_sheet {s t : State} (h : sheet t = sheet s) (c : ChamberNo) : t.candidate c = s.candidate c :=
  congrArg (Sheet.flag · c) h

/-- A listed chamber is no candidate. -/
theorem candidate_of_listed {s : State} (h : (sheet s).Tidy) {c : ChamberNo} {e : Entry} (he : s.roundEntry c = some e) :
    s.candidate c = false := by
  obtain ⟨hmem, hc⟩ := mem_of_roundEntry he
  exact hc ▸ h.unflagged e hmem

theorem chamber_of_roundEntry {s : State} {c : ChamberNo} {e : Entry} (h : s.roundEntry c = some e) : e.chamber = c :=
  (mem_of_roundEntry h).2

theorem candidate_setCandidate (s : State) (c o : ChamberNo) (b : Bool) :
    (setCandidate c b s).candidate o = if o = c then b else s.candidate o :=
  (congrArg (Sheet.flag · o) (sheet_setCandidate s c b)).trans (look_put ..)

theorem candidate_changeRound (s : State) (o : ChamberNo) (l : List Entry) :
    (changeRound l s).candidate o = s.candidate o :=
  congrArg (Sheet.flag · o) (sheet_changeRound s l)

theorem candidate_makeEntry (s : State) (c o : ChamberNo) (u : Urgency) (forced : Bool) :
    (makeEntry c u forced s).candidate o = s.candidate o := by
  unfold makeEntry
  split
  · rfl
  · exact candidate_changeRound ..

theorem roundEntry_setCandidate (s : State) (c o : ChamberNo) (b : Bool) :
    (setCandidate c b s).roundEntry o = s.roundEntry o :=
  congrArg (Sheet.entry · o) (sheet_setCandidate s c b)

theorem roundEntry_rewriteEntry (s : State) (c o : ChamberNo) {f : Entry → Entry} (hf : ∀ e, (f e).chamber = e.chamber) :
    (rewriteEntry c f s).roundEntry o = if o = c then (s.roundEntry c).map f else s.roundEntry o := by
  rw [roundEntry_eq_entry, sheet_rewriteEntry, Sheet.entry_map _ _ fun e => by split <;> simp [hf],
    ← roundEntry_eq_entry]
  split
  · next h =>
    subst h
    cases he : s.roundEntry o with
    | none => rfl
    | some e => rw [Option.map_some, Option.map_some, if_pos (chamber_of_roundEntry he)]
  · next h =>
    cases he : s.roundEntry o with
    | none => rfl
    | some e => rw [Option.map_some, if_neg (chamber_of_roundEntry he ▸ h)]

theorem roundEntry_entryInVisit (s : State) (c o : ChamberNo) (st : StationNo) : (entryInVisit c st s).roundEntry o =
    if o = c then (s.roundEntry c).map fun e => { e with state := .inVisit st } else s.roundEntry o :=
  roundEntry_rewriteEntry s c o fun _ => rfl

theorem entryWaits_false (s : State) (c o : ChamberNo) : (entryWaits c false s).roundEntry o =
    if o = c then (s.roundEntry c).map fun e => { e with state := .waiting } else s.roundEntry o := by
  have hw := roundEntry_rewriteEntry s c o (f := fun e : Entry => { e with state := .waiting }) fun _ => rfl
  simpa [entryWaits] using hw

section
variable {s : State} (h : (sheet s).Tidy) (c o : ChamberNo)
include h

theorem roundEntry_makeEntry {g : ChamberConfig} (hg : (s.chamber c).config = some g)
    (hroom : s.ret.round.length < Config.roundRoom) (hnew : s.roundEntry c = none) (hflag : s.candidate c = false)
    (u : Urgency) (forced : Bool) : (makeEntry c u forced s).roundEntry o =
      if o = c then some (newEntry s c g u forced) else s.roundEntry o := by
  have ht := tidy_makeEntry h c hroom hnew hflag u forced
  rw [makeEntry_of_config hg, sheet_changeRound] at ht
  rw [makeEntry_of_config hg, roundEntry_eq_entry, sheet_changeRound]
  exact ht.entry_joined h o

theorem roundEntry_promote : (promote c s).roundEntry o =
    if o = c then (s.roundEntry c).map fun e => { e with urgency := .urgent } else s.roundEntry o := by
  cases he : s.roundEntry c with
  | none =>
    simp only [promote, he]
    split
    · next ho => rw [ho, he]; rfl
    · rfl
  | some e =>
    have hec := chamber_of_roundEntry he
    cases hu : e.urgency with
    | urgent =>
      simp only [promote, he, hu, reduceCtorEq, if_false]
      split
      · next ho => rw [ho, he, Option.map_some, ← hu]
      · rfl
    | normal =>
      have hp : promote c s = changeRound (joinClass { e with urgency := .urgent } (withoutEntry c s.ret.round)) s := by
        simp only [promote, he, hu, if_true]
      have ht := tidy_promote h c
      rw [hp, sheet_changeRound] at ht
      rw [hp, roundEntry_eq_entry, sheet_changeRound]
      refine (Sheet.Tidy.entry_joined (r := { sheet s with entries := withoutEntry c s.ret.round }) ht
        (h.without c) o).trans ?_
      rw [hec]
      split
      · rw [Option.map_some, hec]
      · next ho => exact ((sheet s).entry_without c o).trans (if_neg ho)

/-- An entry that goes back to WAITING (R114, R130). -/
def waited (skip : Bool) (e : Entry) : Entry :=
  { e with state := .waiting
           skips := if skip then min 15 (e.skips + 1) else e.skips
           urgency := if skip ∧ e.skips = 2 then .urgent else e.urgency }

theorem roundEntry_entryWaits (skip : Bool) : (entryWaits c skip s).roundEntry o =
    if o = c then (s.roundEntry c).map (waited skip) else s.roundEntry o := by
  have hplace (o : ChamberNo) : (waitedInPlace s c skip).roundEntry o = if o = c then (s.roundEntry c).map fun e =>
      { e with state := .waiting, skips := if skip then min 15 (e.skips + 1) else e.skips } else s.roundEntry o :=
    roundEntry_rewriteEntry s c o fun _ => rfl
  have ht : (sheet (waitedInPlace s c skip)).Tidy := tidy_rewriteEntry h c _ (fun _ => rfl) (fun _ => rfl)
  rw [entryWaits_eq, hplace, if_pos rfl]
  cases he : s.roundEntry c with
  | none => rw [if_neg (by simp), hplace, he]; rfl
  | some e =>
    have hthree : min 15 (e.skips + 1) = 3 ↔ e.skips = 2 := by omega
    by_cases hs : skip = true ∧ e.skips = 2
    · obtain ⟨rfl, hs⟩ := hs
      rw [if_pos (by simp [hs]), roundEntry_promote ht, hplace, hplace, he]
      split <;> simp [waited, hs]
    · rw [if_neg (by cases skip <;> simp_all), hplace, he]
      split
      · rw [Option.map_some, Option.map_some, waited, if_neg hs]
      · rfl

end

/-! ## The freed place (R113) -/

theorem bestCandidate_eq_none {s : State} (h : ∀ o, s.candidate o = false) : s.bestCandidate = none := by
  cases hb : s.bestCandidate with
  | none => rfl
  | some d => exact absurd (candidate_of_best hb) (by simp [h])

/-- The best candidate is the one that no other beats. -/
theorem bestCandidate_eq_some {s : State} {d : ChamberNo} (hd : s.candidate d = true)
    (hbest : ∀ o, s.candidate o = true → s.fill o ≤ s.fill d ∧ (s.fill o = s.fill d → d ≤ o)) :
    s.bestCandidate = some d := by
  have hspec := isBest_bestCandidate s
  cases hb : s.bestCandidate with
  | none =>
    rw [hb] at hspec
    exact absurd (hspec d (List.mem_finRange d)) (by simp [hd])
  | some x =>
    rw [hb] at hspec
    obtain ⟨hx, -, hxbest⟩ := hspec
    obtain ⟨hle, hlow⟩ := hxbest d (List.mem_finRange d) hd
    obtain ⟨hge, hhigh⟩ := hbest x hx
    have heq : s.fill x = s.fill d := Nat.le_antisymm hge hle
    rw [le_antisymm (hlow heq.symm) (hhigh heq)]

/-- The list with the entry of a listed chamber taken out. -/
def roundWithout (c : ChamberNo) (s : State) : State := changeRound (withoutEntry c s.ret.round) s

theorem removeEntry_of_listed {s : State} {c : ChamberNo} {e : Entry} (he : s.roundEntry c = some e) :
    removeEntry c s = admitCandidate (roundWithout c s) := by
  simp only [removeEntry, he, roundWithout]

theorem removeEntry_of_unlisted {s : State} {c : ChamberNo} (he : s.roundEntry c = none) : removeEntry c s = s := by
  simp only [removeEntry, he]

theorem sheet_roundWithout (c : ChamberNo) (s : State) :
    sheet (roundWithout c s) = { sheet s with entries := withoutEntry c s.ret.round } := sheet_changeRound ..

theorem roundEntry_roundWithout (c o : ChamberNo) (s : State) :
    (roundWithout c s).roundEntry o = if o = c then none else s.roundEntry o := by
  rw [roundEntry_eq_entry, sheet_roundWithout]
  exact (sheet s).entry_without c o

theorem roundWithout_step (c : ChamberNo) (s : State) : ListStep s (roundWithout c s) := changeRound_step ..

theorem candidate_roundWithout (c o : ChamberNo) (s : State) : (roundWithout c s).candidate o = s.candidate o :=
  congrArg (Sheet.flag · o) (sheet_roundWithout c s)

theorem bestCandidate_roundWithout (c : ChamberNo) (s : State) :
    (roundWithout c s).bestCandidate = s.bestCandidate := by
  simp only [State.bestCandidate, candidate_roundWithout, (roundWithout_step c s).fill]

section
variable {s : State} (h : (sheet s).Tidy) {c : ChamberNo} {e : Entry} (he : s.roundEntry c = some e)
include h he

omit h in
theorem removeEntry_of_no_candidate (hnone : ∀ o, s.candidate o = false) :
    removeEntry c s = roundWithout c s := by
  rw [removeEntry_of_listed he, admitCandidate, bestCandidate_roundWithout, bestCandidate_eq_none hnone]

theorem room_roundWithout : (roundWithout c s).ret.round.length < Config.roundRoom := by
  obtain ⟨hmem, hec⟩ := mem_of_roundEntry he
  rw [show (roundWithout c s).ret.round = _ from congrArg Sheet.entries (sheet_roundWithout c s)]
  exact (length_withoutEntry_lt hmem hec).trans_le h.room

/-- The entry of a listed chamber is removed; a configured best candidate loses its flag and is listed instead. -/
theorem removeEntry_of_best {d : ChamberNo} {g : ChamberConfig} (hd : s.bestCandidate = some d)
    (hg : (s.chamber d).config = some g) :
    (∀ o, (removeEntry c s).candidate o = if o = d then false else s.candidate o) ∧
      ∀ o, (removeEntry c s).roundEntry o = if o = d then some (newEntry s d g (urgencyBy (s.access d)) false)
        else if o = c then none else s.roundEntry o := by
  have hstep := (roundWithout_step c s).trans (setCandidate_step (roundWithout c s) d false)
  have htidy : (sheet (roundWithout c s)).Tidy := by rw [sheet_roundWithout]; exact h.without c
  have hremove : removeEntry c s = makeEntry d (urgencyBy (s.access d)) false
      (setCandidate d false (roundWithout c s)) := by
    rw [removeEntry_of_listed he, admitCandidate, bestCandidate_roundWithout, hd]
    exact congrArg (fun a => makeEntry d (urgencyBy a) false _) ((roundWithout_step c s).access d)
  have hround : (setCandidate d false (roundWithout c s)).ret.round = (roundWithout c s).ret.round :=
    congrArg Sheet.entries (sheet_setCandidate ..)
  have hconfig : ((setCandidate d false (roundWithout c s)).chamber d).config = some g := by rw [hstep.chamber, hg]
  have hnew : (setCandidate d false (roundWithout c s)).roundEntry d = none := by
    rw [roundEntry_setCandidate, roundEntry_roundWithout, unlisted_of_candidate h (candidate_of_best hd), ite_self]
  refine ⟨fun o => ?_, fun o => ?_⟩
  · rw [hremove, candidate_makeEntry, candidate_setCandidate, candidate_roundWithout]
  · rw [hremove, roundEntry_makeEntry (tidy_clearFlag htidy d) d o hconfig
      (by rw [hround]; exact room_roundWithout h he) hnew (by rw [candidate_setCandidate, if_pos rfl]),
      roundEntry_setCandidate, roundEntry_roundWithout, hstep.newEntry]

/-- The removal of an entry changes no other entry but that of the candidate it admits. -/
theorem roundEntry_removeEntry {o : ChamberNo} (ho : s.candidate o = false) :
    (removeEntry c s).roundEntry o = if o = c then none else s.roundEntry o := by
  cases hd : s.bestCandidate with
  | none =>
    rw [removeEntry_of_listed he, admitCandidate, bestCandidate_roundWithout, hd]
    exact roundEntry_roundWithout c o s
  | some d =>
    have hod : o ≠ d := fun hod => by rw [hod, candidate_of_best hd] at ho; cases ho
    cases hg : (s.chamber d).config with
    | none =>
      rw [removeEntry_of_listed he, admitCandidate, bestCandidate_roundWithout, hd]
      refine (congrArg (State.roundEntry · o) (makeEntry_of_unconfigured ?_ _ _)).trans
        ((roundEntry_setCandidate ..).trans (roundEntry_roundWithout c o s))
      rw [((roundWithout_step c s).trans (setCandidate_step ..)).chamber, hg]
    | some g => exact ((removeEntry_of_best h he hd hg).2 o).trans (if_neg hod)

end

end Sys2Proof.Machine
end

section
/-! PROOFS. ROUND ADD and ROUND DROP on a ready part (R113, R117, R118). -/

namespace Sys2Proof.Machine

theorem chamberOf_eq_none {b : Byte} : chamberOf b = none ↔ 64 ≤ b.toNat := by
  simp [chamberOf]

theorem chamberOf_eq_some {b : Byte} {c : ChamberNo} : chamberOf b = some c ↔ c.val = b.toNat := by
  unfold chamberOf
  split
  · simp [Fin.ext_iff, eq_comm]
  · next h => simp only [reduceCtorEq, false_iff]; exact fun he => h (he ▸ c.isLt)

theorem urgencyOf_eq_none {b : Byte} : urgencyOf b = none ↔ 2 ≤ b.toNat := by
  unfold urgencyOf
  split <;> simp_all; omega

theorem urgencyOf_of_lt {b : Byte} (h : b.toNat < 2) :
    urgencyOf b = some (if b.toNat = 1 then .urgent else .normal) := by
  have hb : b.toNat = 0 ∨ b.toNat = 1 := by omega
  rcases hb with hb | hb <;> simp [urgencyOf, hb]

/-! ## The owner's action (R117, R118) -/

section
variable {s : State} {b u : Byte} {c : ChamberNo}

theorem takeRoundAdd_badValue
    (h : 64 ≤ b.toNat ∨ 2 ≤ u.toNat ∨ ∃ c : ChamberNo, c.val = b.toNat ∧ (s.chamber c).config = none) :
    takeRoundAdd b u s = (s, bare .badValue) := by
  unfold takeRoundAdd
  split
  · next d x hd hx =>
    rcases h with h | h | ⟨c, hc, hg⟩
    · rw [chamberOf_eq_none.2 h] at hd; cases hd
    · rw [urgencyOf_eq_none.2 h] at hx; cases hx
    · rw [chamberOf_eq_some.2 hc] at hd
      cases hd
      rw [hg]; rfl
  · rfl

section
variable {g : ChamberConfig} (hc : c.val = b.toNat) (hg : (s.chamber c).config = some g) (hu : u.toNat < 2)
include hc hg hu

theorem takeRoundAdd_listed (he : (s.roundEntry c).isSome = true) :
    takeRoundAdd b u s = (forceEntry c (if u.toNat = 1 then .urgent else .normal) s, bare .ok) := by
  simp [takeRoundAdd, chamberOf_eq_some.2 hc, urgencyOf_of_lt hu, hg, he]

theorem takeRoundAdd_listFull (he : s.roundEntry c = none) (hroom : 32 ≤ s.ret.round.length) :
    takeRoundAdd b u s = (s, bare .listFull) := by
  simp [takeRoundAdd, chamberOf_eq_some.2 hc, urgencyOf_of_lt hu, hg, he, Config.roundRoom, hroom]

theorem takeRoundAdd_unlisted (he : s.roundEntry c = none) (hroom : s.ret.round.length < 32) :
    takeRoundAdd b u s = (addEntry c (if u.toNat = 1 then .urgent else .normal) s, bare .ok) := by
  simp [takeRoundAdd, chamberOf_eq_some.2 hc, urgencyOf_of_lt hu, hg, he, Config.roundRoom, hroom]

end

theorem takeRoundDrop_badValue (h : 64 ≤ b.toNat) : takeRoundDrop b s = (s, bare .badValue) := by
  simp only [takeRoundDrop, chamberOf_eq_none.2 h]

theorem takeRoundDrop_unlisted (hc : c.val = b.toNat) (he : s.roundEntry c = none) :
    takeRoundDrop b s = (s, bare .notFound) := by
  simp only [takeRoundDrop, chamberOf_eq_some.2 hc, he]

theorem takeRoundDrop_inVisit {e : Entry} (hc : c.val = b.toNat) (he : s.roundEntry c = some e)
    (hw : e.state ≠ .waiting) : takeRoundDrop b s = (s, bare .refused) := by
  simp only [takeRoundDrop, chamberOf_eq_some.2 hc, he, if_neg hw]

theorem takeRoundDrop_waiting {e : Entry} (hc : c.val = b.toNat) (he : s.roundEntry c = some e)
    (hw : e.state = .waiting) : takeRoundDrop b s = (removeEntry c s, bare .ok) := by
  simp only [takeRoundDrop, chamberOf_eq_some.2 hc, he, if_pos hw]

end

/-! ## What becomes of the entries -/

section
variable {s : State} (h : (sheet s).Tidy) (c o : ChamberNo) (u : Urgency)
include h

theorem roundEntry_forceEntry : (forceEntry c u s).roundEntry o = if o = c then (s.roundEntry c).map fun e =>
    { e with forced := true, urgency := if u = .urgent then .urgent else e.urgency } else s.roundEntry o := by
  have hf := fun o => roundEntry_rewriteEntry s c o (f := fun e : Entry => { e with forced := true }) fun _ => rfl
  unfold forceEntry
  dsimp only
  split
  · have ht := tidy_rewriteEntry h c (fun e : Entry => { e with forced := true }) (fun _ => rfl) (fun _ => rfl)
    rw [roundEntry_promote ht, hf, hf, if_pos rfl, Option.map_map]
    split <;> rfl
  · exact hf o

omit h in
theorem forceEntry_step : ListStep s (forceEntry c u s) := by
  unfold forceEntry; dsimp only
  split
  · exact (rewriteEntry_step ..).trans (promote_step ..)
  · exact rewriteEntry_step ..

omit h in
theorem candidates_forceEntry : (forceEntry c u s).main.candidates = s.main.candidates := by
  have hrewrite : (sheet (rewriteEntry c (fun e => { e with forced := true }) s)).flags = (sheet s).flags := by
    rw [sheet_rewriteEntry]
  have hpromote : ∀ t : State, (sheet (promote c t)).flags = (sheet t).flags := fun t => by
    unfold promote; repeat' split
    · rw [sheet_changeRound]
    all_goals rfl
  unfold forceEntry; dsimp only
  split
  · exact (hpromote _).trans hrewrite
  · exact hrewrite

omit h in
theorem addEntry_step : ListStep s (addEntry c u s) := (setCandidate_step ..).trans (makeEntry_step ..)

theorem roundEntry_addEntry {g : ChamberConfig} (hg : (s.chamber c).config = some g) (hnew : s.roundEntry c = none)
    (hroom : s.ret.round.length < Config.roundRoom) : (addEntry c u s).roundEntry o =
      if o = c then some (newEntry s c g (if u = .urgent then .urgent else urgencyBy (s.access c)) true)
      else s.roundEntry o := by
  have hstep := setCandidate_step s c false
  have hround : (setCandidate c false s).ret.round = s.ret.round := congrArg Sheet.entries (sheet_setCandidate ..)
  rw [addEntry, roundEntry_makeEntry (tidy_clearFlag h c) c o (by rw [hstep.chamber, hg]) (by rwa [hround])
    (by rwa [roundEntry_setCandidate]) (by rw [candidate_setCandidate, if_pos rfl]), hstep.newEntry,
    roundEntry_setCandidate]

omit h in
theorem candidates_addEntry : (addEntry c u s).main.candidates = put s.main.candidates c false := by
  have hmake : ∀ (t : State) (v : Urgency), (sheet (makeEntry c v true t)).flags = (sheet t).flags := fun t v => by
    unfold makeEntry
    split
    · rfl
    · rw [sheet_changeRound]
  exact (hmake ..).trans (congrArg Sheet.flags (sheet_setCandidate ..))

end

/-- Settles O23: the requests reach their owner at once, and each entry is read off the rules of the list's operations. -/
theorem roundAddAndDrop : Obligations.RoundAddAndDrop := by
  intro tag b u s htag hs hlaw
  have h : (sheet s).Tidy := roundLaw_iff.1 hlaw (.inl hs.1)
  dsimp only
  have exec_add {t rep} (hact : takeRoundAdd b u (queued tag (.roundAdd b u) s) = (t, rep)) :
      exec (.roundAdd tag b u) s = .next (replied tag (.roundAdd b u) rep t) := exec_of_ready rfl htag hs hact
  have exec_drop {t rep} (hact : takeRoundDrop b (queued tag (.roundDrop b) s) = (t, rep)) :
      exec (.roundDrop tag b) s = .next (replied tag (.roundDrop b) rep t) := exec_of_ready rfl htag hs hact
  refine ⟨fun hbad => ?_, fun hbad => ?_, fun c hc => ⟨fun g hg hu => ⟨fun e he => ?listed, fun he hroom => ?full,
    fun he hroom => ?unlisted⟩, fun he => ?absent, fun e he => ⟨fun hw => ?inVisit, fun hw => ?waiting⟩⟩⟩
  · exact exec_of_ready_unchanged rfl htag hs (takeRoundAdd_badValue hbad)
  · exact exec_of_ready_unchanged rfl htag hs (takeRoundDrop_badValue hbad)
  case listed =>
    have hentry := fun o => roundEntry_forceEntry (s := queued tag (.roundAdd b u) s) h c o
      (if u.toNat = 1 then .urgent else .normal)
    refine ⟨_, exec_add (takeRoundAdd_listed hc hg hu (Option.isSome_of_eq_some he)), ?_, fun o ho => ?_,
      (forceEntry_step ..).ret, candidates_forceEntry ..⟩
    · rw [hentry, if_pos rfl]
      refine (congrArg (Option.map _) he).trans ?_
      by_cases hone : u.toNat = 1 <;> simp [hone]
    · exact (hentry o).trans (if_neg ho)
  case full => exact exec_of_ready_unchanged rfl htag hs (takeRoundAdd_listFull hc hg hu he hroom)
  case unlisted =>
    have hentry := fun o => roundEntry_addEntry (s := queued tag (.roundAdd b u) s) h c o
      (if u.toNat = 1 then .urgent else .normal) hg he hroom
    refine ⟨_, exec_add (takeRoundAdd_unlisted hc hg hu he hroom), ?_, fun o ho => ?_, (addEntry_step ..).ret,
      candidates_addEntry ..⟩
    · rw [hentry, if_pos rfl]
      by_cases hone : u.toNat = 1
      · simp only [hone, if_true, true_or]; rfl
      · simp only [hone, if_false, false_or, reduceCtorEq]; rfl
    · exact (hentry o).trans (if_neg ho)
  case absent => exact exec_of_ready_unchanged rfl htag hs (takeRoundDrop_unlisted hc he)
  case inVisit => exact exec_of_ready_unchanged rfl htag hs (takeRoundDrop_inVisit hc he hw)
  case waiting =>
    refine ⟨_, exec_drop (takeRoundDrop_waiting hc he hw), ?removed, (removeEntry_step ..).ret, fun hnone => ?_,
      fun d g hd hg hbest => ?admitted⟩
    case admitted =>
      obtain ⟨hflags, hentries⟩ := removeEntry_of_best (s := queued tag (.roundDrop b) s) h he
        (bestCandidate_eq_some hd hbest) hg
      exact ⟨(hflags d).trans (if_pos rfl), fun o ho => (hflags o).trans (if_neg ho), (hentries d).trans (if_pos rfl)⟩
    case removed =>
      exact (roundEntry_removeEntry (s := queued tag (.roundDrop b) s) h he (candidate_of_listed h he)).trans (if_pos rfl)
    · rw [removeEntry_of_no_candidate (s := queued tag (.roundDrop b) s) he hnone]
      exact congrArg Sheet.entries (sheet_roundWithout ..)

end Sys2Proof.Machine
end

section
/-! PROOFS. Phases that change and visits that close (R119, R129, R130), and the ends of slot commands (R13). -/

namespace Sys2Proof.Machine

/-! ## The outbox keeps its keys (R180) -/

theorem posted_postWith_of_posted {k : Key} {s : State} (h : posted k s) (j : Key) (n : CardNo) (x : Serial) :
    posted k (postWith j n x s) :=
  List.mem_map.1 (mem_postWith_of_mem s j k n x (List.mem_map.2 h))

theorem posted_post_of_posted {k : Key} {s : State} (h : posted k s) (j : Key) : posted k (post j s) :=
  posted_postWith_of_posted h j 0 0

theorem posted_postWith (k : Key) (n : CardNo) (x : Serial) (s : State) : posted k (postWith k n x s) :=
  List.mem_map.1 (mem_postWith s k n x)

/-! ## Access states (R8) -/

/-- A change of access state writes the chamber's record, and may move the scheduler and the outbox. -/
theorem setAccess_spec (c : ChamberNo) (x : Access) (s : State) : ∃ (sched : Scheduler) (outbox : List OutboxKey),
    setAccess c x s = { s with
      ret := { s.ret with chambers := put s.ret.chambers c { s.chamber c with access := x } }
      main := { s.main with sched := sched, host := { s.main.host with outbox := outbox } } } := by
  unfold setAccess
  split
  · next h =>
    have hput : put s.ret.chambers c { s.chamber c with access := x } = s.ret.chambers := by
      rw [← h]; exact put_look ..
    exact ⟨s.main.sched, s.main.host.outbox, by rw [hput]⟩
  · dsimp only
    split <;> split <;> exact ⟨_, _, rfl⟩

section
variable (c : ChamberNo) (x : Access) (s : State)

theorem setAccess_ret : (setAccess c x s).ret =
    { s.ret with chambers := put s.ret.chambers c { s.chamber c with access := x } } := by
  obtain ⟨_, _, h⟩ := setAccess_spec c x s; rw [h]

theorem slot_setAccess (o : ChamberNo) : (setAccess c x s).slot o = s.slot o := by
  obtain ⟨_, _, h⟩ := setAccess_spec c x s; rw [h]; rfl

theorem session_setAccess (o : ChamberNo) : (setAccess c x s).session o = s.session o := by
  obtain ⟨_, _, h⟩ := setAccess_spec c x s; rw [h]; rfl

end

/-! ## Phases (R119) -/

section
variable {s t : State} (h : t.ret.visits = s.ret.visits)
include h

theorem visitOf_of_visits (c : ChamberNo) : t.visitOf c = s.visitOf c := by simp only [State.visitOf, h]

theorem phaseOf_of_visits (c : ChamberNo) : t.phaseOf c = s.phaseOf c := by
  simp only [State.phaseOf, visitOf_of_visits h, h]

theorem visitAt_of_visits (st : StationNo) : t.visitAt st = s.visitAt st := by simp only [State.visitAt, h]

end

theorem phaseOf_withPhase (v : Visit) (c o : ChamberNo) (ph : Phase) :
    (v.withPhase c ph).phaseOf o = if o = c then (v.phaseOf c).map fun _ => ph else v.phaseOf o := by
  have hfind : (v.withPhase c ph).involved.find? (·.chamber = o) = (v.involved.find? (·.chamber = o)).map
      fun i => if i.chamber = c then { i with phase := ph } else i := by
    simp only [Visit.withPhase, List.find?_map]
    congr 2
    funext i
    simp only [Function.comp]
    split <;> rfl
  simp only [Visit.phaseOf, hfind, Option.map_map]
  split
  · next ho =>
    subst ho
    cases hi : v.involved.find? (·.chamber = o) with
    | none => rfl
    | some i =>
      have hio : i.chamber = o := by simpa using List.find?_some hi
      simp [hio]
  · next ho =>
    cases hi : v.involved.find? (·.chamber = o) with
    | none => rfl
    | some i =>
      have hio : i.chamber = o := by simpa using List.find?_some hi
      have hic : i.chamber ≠ c := hio ▸ ho
      simp [hic]

theorem visits_setPhaseAt {s : State} {p : Fin 4} {v : Visit} (hv : look s.ret.visits p = some v) (c : ChamberNo)
    (ph : Phase) : (setPhaseAt p c ph s).ret.visits = put s.ret.visits p (some (v.withPhase c ph)) := by
  rw [setPhaseAt_spec s c p ph hv]; rfl

/-- The open visit that works on a chamber, with its record and the chamber's phase there. -/
theorem visitOf_of_phaseOf {s : State} {c : ChamberNo} {ph : Phase} (h : s.phaseOf c = some ph) :
    ∃ p v, s.visitOf c = some p ∧ look s.ret.visits p = some v ∧ v.phaseOf c = some ph := by
  cases hp : s.visitOf c with
  | none => simp [State.phaseOf, hp] at h
  | some p =>
    cases hv : look s.ret.visits p with
    | none => simp [State.phaseOf, hp, hv] at h
    | some v => exact ⟨p, v, rfl, hv, by simpa [State.phaseOf, hp, hv] using h⟩

/-- A chamber's visit keeps working on it in a new phase that is not final. -/
theorem phaseOf_setPhase {s : State} {c : ChamberNo} {old ph : Phase} (h : s.phaseOf c = some old)
    (hph : ph.final = false) : (setPhase c ph s).phaseOf c = some ph := by
  obtain ⟨p, v, hp, hv, hold⟩ := visitOf_of_phaseOf h
  have hset : setPhase c ph s = setPhaseAt p c ph s := by simp only [setPhase, hp]
  have hvis := visits_setPhaseAt hv c ph
  have hnew : (v.withPhase c ph).phaseOf c = some ph := by rw [phaseOf_withPhase, if_pos rfl, hold]; rfl
  have hof : (setPhaseAt p c ph s).visitOf c = some p := by
    refine lowest_of_first ?_ fun q hq => ?_
    · simp [hvis, Visit.worksOn, hnew, hph]
    · rw [hvis, look_put_other _ _ _ _ hq.ne]
      exact (lowest_eq_some hp).2 q hq
  rw [hset, State.phaseOf, hof, Option.bind_some, hvis, look_put_same]
  exact hnew

/-! ## Visits that close (R129, R130) -/

/-- The visit's record leaves its place, its summary is written, and (VISIT, station) and (ROUND) are posted (R130). -/
def visitRecorded (p : Fin 4) (v : Visit) (o : VisitOutcome) (s : State) : State :=
  post .round (post (.visit v.station) (s.onRet fun r =>
    { r with visits := put r.visits p none, summaries := put r.summaries v.station (some (summaryOf v o s.now)) }))

section
variable {s : State} {p : Fin 4} {v : Visit} (hv : look s.ret.visits p = some v)
include hv

theorem closeVisit_eq (o : VisitOutcome) : closeVisit p o s = visitRecorded p v o (eachOf v.involved closeInvolved s) := by
  unfold closeVisit
  rw [hv]
  rfl

omit hv in
theorem eachOf_closeInvolved_of_final {l : List Involved} (hl : ∀ i ∈ l, i.phase.final = true) (s : State) :
    eachOf l closeInvolved s = s := by
  induction l generalizing s with
  | nil => rfl
  | cons i l ih =>
    obtain ⟨hi, hl⟩ := List.forall_mem_cons.1 hl
    have hclose : closeInvolved i s = s := if_pos hi
    exact (congrArg (eachOf l closeInvolved) hclose).trans (ih hl s)

/-- A visit whose phases are all final closes without touching a chamber. -/
theorem closeVisit_of_final (hf : ∀ i ∈ v.involved, i.phase.final = true) (o : VisitOutcome) :
    closeVisit p o s = visitRecorded p v o s := by
  rw [closeVisit_eq hv, eachOf_closeInvolved_of_final hf]

theorem checkComplete_of_final (hf : ∀ i ∈ v.involved, i.phase.final = true) :
    checkComplete p s = visitRecorded p v .complete s := by
  have hall : v.involved.all (·.phase.final) = true := List.all_eq_true.2 hf
  simp only [checkComplete, hv, hall, if_true, closeVisit_of_final hv hf]

theorem checkComplete_of_unfinished {i : Involved} (hi : i ∈ v.involved) (hf : i.phase.final = false) :
    checkComplete p s = s := by
  have hall : ¬ v.involved.all (·.phase.final) = true := fun hall => by
    rw [List.all_eq_true.1 hall i hi] at hf; cases hf
  simp only [checkComplete, hv, if_neg hall]

end

/-- A final phase that a chamber's visit took settles the visit (R129). -/
theorem phaseSettled_checkComplete {s : State} {p : Fin 4} {v : Visit} {c : ChamberNo} {ph : Phase}
    (hv : look s.ret.visits p = some (v.withPhase c ph)) (hc : v.phaseOf c ≠ none) (hph : ph.final = true) :
    phaseSettled p v c ph (checkComplete p s) := by
  have hinvolved : (v.withPhase c ph).involved = v.involved.map fun i => if i.chamber = c then { i with phase := ph } else i :=
    rfl
  refine ⟨fun hall => ?_, fun ⟨i, hi, hic, hf⟩ => ?_⟩
  · rw [checkComplete_of_final hv fun j hj => ?_]
    · exact ⟨look_put_same .., _, look_put_same .., rfl, rfl⟩
    · rw [hinvolved] at hj
      obtain ⟨i, hi, rfl⟩ := List.mem_map.1 hj
      split
      · exact hph
      · next hic => exact hall i hi hic
  · refine ⟨v.withPhase c ph, ?_, ?_⟩
    · rw [checkComplete_of_unfinished hv (i := i) ?_ hf]
      · exact hv
      · exact hinvolved ▸ List.mem_map.2 ⟨i, hi, if_neg hic⟩
    · rw [phaseOf_withPhase, if_pos rfl]
      cases h : v.phaseOf c with
      | none => exact absurd h hc
      | some _ => rfl

/-- Completion is checked: the visit closes without touching a chamber, or nothing happens (R129). -/
theorem checkComplete_cases (p : Fin 4) (s : State) : checkComplete p s = s ∨
    ∃ v, look s.ret.visits p = some v ∧ checkComplete p s = visitRecorded p v .complete s := by
  cases hv : look s.ret.visits p with
  | none => exact .inl (by simp only [checkComplete, hv])
  | some v =>
    by_cases hf : ∀ i ∈ v.involved, i.phase.final = true
    · exact .inr ⟨v, rfl, checkComplete_of_final hv hf⟩
    · push Not at hf
      obtain ⟨i, hi, hif⟩ := hf
      exact .inl (checkComplete_of_unfinished hv hi (Bool.eq_false_iff.2 hif))

section
variable (p : Fin 4) (s : State)

theorem checkComplete_chamber (c : ChamberNo) : (checkComplete p s).chamber c = s.chamber c := by
  rcases checkComplete_cases p s with h | ⟨v, -, h⟩ <;> rw [h]; rfl

theorem checkComplete_slot (c : ChamberNo) : (checkComplete p s).slot c = s.slot c := by
  rcases checkComplete_cases p s with h | ⟨v, -, h⟩ <;> rw [h]; rfl

theorem sheet_checkComplete : sheet (checkComplete p s) = sheet s := by
  rcases checkComplete_cases p s with h | ⟨v, -, h⟩ <;> rw [h]; rfl

theorem checkComplete_other_visit {q : Fin 4} (hq : q ≠ p) :
    look (checkComplete p s).ret.visits q = look s.ret.visits q := by
  rcases checkComplete_cases p s with h | ⟨v, -, h⟩ <;> rw [h]
  exact look_put_other _ _ _ _ hq

theorem posted_visitRecorded {k : Key} {s : State} (h : posted k s) (v : Visit) (o : VisitOutcome) :
    posted k (visitRecorded p v o s) :=
  posted_post_of_posted (posted_post_of_posted (s := s.onRet _) h _) _

theorem posted_checkComplete {k : Key} {s : State} (h : posted k s) : posted k (checkComplete p s) := by
  rcases checkComplete_cases p s with hc | ⟨v, -, hc⟩ <;> rw [hc]
  · exact h
  · exact posted_visitRecorded p h ..

end

/-! ## The ends of slot commands (R13) -/

/-- A failed slot command reaches its owner, and the turn ends (R13, R139). -/
theorem takeCommandEnd_failed {s : State} {c : ChamberNo} {a : AddrNo} {cmd : Command} {p : Command → Bool}
    (ht : s.turnKind = some (.command c a)) (hs : (s.slot c).sending = some cmd) (hp : p cmd = true)
    (finish : ChamberNo → AddrNo → Bool → State → State) :
    takeCommandEnd p finish .failed s = finish c a false s := by
  simp [takeCommandEnd, State.commandTurn, ht, hs, hp]

/-- So does an answered one, whose answer is bare. -/
theorem takeCommandEnd_answered {s : State} {c : ChamberNo} {a : AddrNo} {cmd : Command} {p : Command → Bool}
    (ht : s.turnKind = some (.command c a)) (hs : (s.slot c).sending = some cmd) (hp : p cmd = true)
    (finish : ChamberNo → AddrNo → Bool → State → State) :
    takeCommandEnd p finish (.answered (answerFrame a cmd.code [])) s = finish c a true s := by
  have hbare : answersBare a cmd.code (answerFrame a cmd.code []) = true :=
    decide_eq_true (answerPayload_answerFrame a cmd.code (Nat.zero_le _))
  simp [takeCommandEnd, State.commandTurn, ht, hs, hp, hbare]

theorem whilePowered_of_vdd {s : State} (hv : s.vdd = true) (f : State → State) : whilePowered f s = .next (f s) :=
  congrArg Host.Outcome.next (if_pos hv)

/-- The command that `removePending` is asked to remove does not stand in the place any more (R12). -/
theorem pending_removePending {s : State} {c : ChamberNo} {p : Command → Bool} {cmd : Command} (hp : p cmd = true)
    (time : Seconds) : ((removePending p c s).slot c).pending ≠ some (cmd, time) := by
  unfold removePending
  split
  · next x t hx =>
    split
    · exact fun h => by simp [dropPending, State.slot] at h
    · next hpx => rw [hx]; rintro ⟨⟩; exact hpx hp
  · next hx => rw [hx]; nofun

end Sys2Proof.Machine
end

section
/-! PROOFS. The end of a LOCK (R123, R129). -/

namespace Sys2Proof.Machine

theorem slot_alarm (t : AlarmType) (c o : ChamberNo) (s : State) : (alarm t c s).slot o = s.slot o := rfl

/-- The state in which completion is checked after a failed LOCK (R123). -/
def lockRefused (p : Fin 4) (c : ChamberNo) (s : State) : State :=
  alarm .lockFailed c (removePending (· = .lock) c (entryWaits c false (setPhaseAt p c .blocked (setAccess c .blocked s))))

section
variable {s : State} {c : ChamberNo}

theorem lockEnded_answered (hacc : s.access c = .locking) (hph : s.phaseOf c = some .locking) :
    lockEnded c true s = removePending (· = .lock) c (setPhase c .locked (setAccess c .locked s)) := by
  simp only [lockEnded, hacc, hph, if_true]

theorem lockEnded_failed (hacc : s.access c = .locking) (hph : s.phaseOf c = some .locking) {p : Fin 4}
    (hp : s.visitOf c = some p) : lockEnded c false s = checkComplete p (lockRefused p c s) := by
  have hof : (setAccess c .blocked s).visitOf c = some p :=
    (visitOf_of_visits (by rw [setAccess_ret]) c).trans hp
  simp only [lockEnded, hacc, hph, finishPhase, hof]
  rfl

theorem lockEnded_draining (hacc : s.access c = .locking) (hph : s.phaseOf c = some .draining) (b : Bool) :
    lockEnded c b s = postCommand c .release s := by
  simp only [lockEnded, hacc, hph]

theorem lockEnded_gone (hacc : s.access c = .lifted ∨ s.access c = .blocked) (b : Bool) :
    lockEnded c b s = if b then s else alarm .lockFailed c s := by
  rcases hacc with hacc | hacc <;> simp only [lockEnded, hacc]

theorem lockEnded_inService (hacc : s.access c = .opened ∨ s.access c = .full) (b : Bool) :
    lockEnded c b s = postCommand c .release s := by
  rcases hacc with hacc | hacc <;> simp only [lockEnded, hacc]

end

/-! ## An answered LOCK -/

section
variable {s : State} {c : ChamberNo} (hph : s.phaseOf c = some .locking)
include hph

theorem phaseOf_locked : (setPhase c .locked (setAccess c .locked s)).phaseOf c = some .locked :=
  phaseOf_setPhase (old := .locking) ((phaseOf_of_visits (by rw [setAccess_ret]) c).trans hph) rfl

omit hph in
theorem chamber_locked (o : ChamberNo) :
    (setPhase c .locked (setAccess c .locked s)).chamber o = (setAccess c .locked s).chamber o := by
  rw [State.chamber, setPhase_ret]; rfl

omit hph in
theorem ret_locked : (setPhase c .locked (setAccess c .locked s)).ret = { s.ret with
    chambers := (setPhase c .locked (setAccess c .locked s)).ret.chambers
    visits := (setPhase c .locked (setAccess c .locked s)).ret.visits } := by
  rw [setPhase_ret, setAccess_ret]

end

/-! ## A failed LOCK -/

section
variable (p : Fin 4) (c : ChamberNo) (s : State)

theorem exists_slotStep_lockRefused : ∃ x, SlotStep (entryWaits c false (setPhaseAt p c .blocked (setAccess c .blocked s))) x c ∧
    lockRefused p c s = alarm .lockFailed c x := ⟨_, removePending_step .., rfl⟩

theorem posted_lockRefused : posted (.alarm .lockFailed c) (lockRefused p c s) := by
  rw [lockRefused, alarm]; exact posted_postWith ..

theorem pending_lockRefused (time : Seconds) : ((lockRefused p c s).slot c).pending ≠ some (.lock, time) := by
  rw [lockRefused, slot_alarm]
  exact pending_removePending (decide_eq_true rfl) time

theorem lockRefused_visits {v : Visit} (hv : look s.ret.visits p = some v) :
    (lockRefused p c s).ret.visits = put s.ret.visits p (some (v.withPhase c .blocked)) := by
  obtain ⟨x, hx, h⟩ := exists_slotStep_lockRefused p c s
  rw [h]
  show x.ret.visits = _
  rw [hx.ret, (entryWaits_step _ c false).ret]
  show (setPhaseAt p c .blocked (setAccess c .blocked s)).ret.visits = _
  rw [visits_setPhaseAt (v := v) (by rw [setAccess_ret]; exact hv), setAccess_ret]

theorem lockRefused_chamber (o : ChamberNo) : (lockRefused p c s).chamber o = (setAccess c .blocked s).chamber o := by
  obtain ⟨x, hx, h⟩ := exists_slotStep_lockRefused p c s
  rw [h]
  show look x.ret.chambers o = _
  rw [hx.ret, (entryWaits_step _ c false).ret]
  show look (setPhaseAt p c .blocked (setAccess c .blocked s)).ret.chambers o = _
  rw [setPhaseAt_ret]; rfl

theorem lockRefused_entry {e : Entry} (he : s.roundEntry c = some e) :
    (lockRefused p c s).roundEntry c = some { e with state := .waiting } := by
  obtain ⟨x, hx, h⟩ := exists_slotStep_lockRefused p c s
  have hsheet : sheet (setPhaseAt p c .blocked (setAccess c .blocked s)) = sheet s := by simp
  rw [h]
  refine (roundEntry_of_sheet (sheet_of_slotStep hx) c).trans ?_
  rw [entryWaits_false, if_pos rfl, roundEntry_of_sheet hsheet, he]; rfl

end

/-- Settles O36: the end reaches the round unit, whose action is read off its equation by access state and phase. -/
theorem lockEndByAccessState : Obligations.LockEndByAccessState := by
  intro s c a hv ht hs
  dsimp only
  have hanswered : exec (.lockEnd (.answered (answerFrame a 0x12 []))) s =
      .next (endTurn a true (lockEnded c true (unsent c s))) := by
    refine (whilePowered_of_vdd hv _).trans (congrArg Host.Outcome.next ?_)
    exact takeCommandEnd_answered ht hs (decide_eq_true rfl) endLock
  have hfailed : exec (.lockEnd .failed) s = .next (endTurn a false (lockEnded c false (unsent c s))) := by
    refine (whilePowered_of_vdd hv _).trans (congrArg Host.Outcome.next ?_)
    exact takeCommandEnd_failed ht hs (decide_eq_true rfl) endLock
  rw [hanswered, hfailed]
  refine ⟨fun hacc hph => ⟨⟨_, rfl, ?_⟩, ⟨_, rfl, ?_⟩⟩, fun hacc hph => ?draining, fun hacc => ?gone, fun hacc => ?service⟩
  case draining => rw [lockEnded_draining (s := unsent c s) hacc hph, lockEnded_draining (s := unsent c s) hacc hph]; exact ⟨rfl, rfl⟩
  case gone => rw [lockEnded_gone (s := unsent c s) hacc, lockEnded_gone (s := unsent c s) hacc]; exact ⟨rfl, rfl⟩
  case service => rw [lockEnded_inService (s := unsent c s) hacc, lockEnded_inService (s := unsent c s) hacc]; exact ⟨rfl, rfl⟩
  · rw [lockEnded_answered (s := unsent c s) hacc hph]
    have hret := (removePending_step (setPhase c .locked (setAccess c .locked (unsent c s))) c (· = .lock)).ret
    have hchamber (o : ChamberNo) : (removePending (· = .lock) c (setPhase c .locked
        (setAccess c .locked (unsent c s)))).chamber o = (setAccess c .locked (unsent c s)).chamber o := by
      rw [State.chamber, hret]; exact chamber_locked o
    refine ⟨?_, (phaseOf_of_visits (by rw [hret]) c).trans (phaseOf_locked (s := unsent c s) hph),
      pending_removePending (decide_eq_true rfl), fun o ho => ?_, ?_⟩
    · rw [State.access, hchamber, chamber_setAccess, if_pos rfl]
    · rw [hchamber, chamber_setAccess, if_neg ho]; rfl
    · rw [hret]; exact ret_locked
  · obtain ⟨p, v, hp, hlook, hvph⟩ := visitOf_of_phaseOf (s := unsent c s) hph
    rw [lockEnded_failed (s := unsent c s) hacc hph hp]
    have hchamber (o : ChamberNo) := (checkComplete_chamber p (lockRefused p c (unsent c s)) o).trans
      (lockRefused_chamber p c (unsent c s) o)
    have hvisits := lockRefused_visits p c (unsent c s) hlook
    refine ⟨?_, posted_checkComplete p (posted_lockRefused ..), fun time => ?_, fun o ho => ?_, fun e he => ?_,
      fun q w hq hw => ?_⟩
    · rw [State.access, hchamber, chamber_setAccess, if_pos rfl]
    · rw [checkComplete_slot]; exact pending_lockRefused p c _ time
    · rw [hchamber, chamber_setAccess, if_neg ho]; rfl
    · exact (roundEntry_of_sheet (sheet_checkComplete ..) c).trans (lockRefused_entry p c (unsent c s) he)
    · cases hp.symm.trans hq
      cases hlook.symm.trans hw
      refine ⟨fun o ho => ?_, phaseSettled_checkComplete (by rw [hvisits, look_put_same]) (by rw [hvph]; nofun) rfl⟩
      rw [checkComplete_other_visit p _ ho, hvisits, look_put_other _ _ _ _ ho]; rfl

end Sys2Proof.Machine
end

section
/-! PROOFS. A crew card that opens a visit (R119 to R121). -/

namespace Sys2Proof.Machine

/-! ## Chambers handled in turn -/

section
variable {α β : Type} {f : α → State → State} {g : State → β} {l : List α}

theorem eachOf_cons (x : α) (l : List α) (f : α → State → State) (s : State) :
    eachOf (x :: l) f s = eachOf l f (f x s) := rfl

/-- What no handling changes stands after all of them. `P` speaks of the chambers that are still to come and the state. -/
theorem eachOf_keeps_of {P : List α → State → Prop} (hP : ∀ x l s, P (x :: l) s → P l (f x s))
    (hother : ∀ x l s, P (x :: l) s → g (f x s) = g s) {l : List α} {s : State} (hs : P l s) :
    g (eachOf l f s) = g s ∧ P [] (eachOf l f s) := by
  induction l generalizing s with
  | nil => exact ⟨rfl, hs⟩
  | cons x l ih =>
    obtain ⟨hg, hend⟩ := ih (hP x l s hs)
    exact ⟨hg.trans (hother x l s hs), hend⟩

/-- What one handling alone changes stands as that one makes it. -/
theorem eachOf_changes_of {P : List α → State → Prop} {o : α} {G : β → β} (hP : ∀ x l s, P (x :: l) s → P l (f x s))
    (hother : ∀ x l s, x ≠ o → P (x :: l) s → g (f x s) = g s) (hsame : ∀ l s, P (o :: l) s → g (f o s) = G (g s))
    {l : List α} (hl : l.Nodup) (ho : o ∈ l) {s : State} (hs : P l s) : g (eachOf l f s) = G (g s) := by
  induction l generalizing s with
  | nil => cases ho
  | cons x l ih =>
    obtain ⟨hxl, hl⟩ := List.nodup_cons.1 hl
    by_cases hxo : x = o
    · subst hxo
      have hrest := eachOf_keeps_of (P := fun l s => P l s ∧ x ∉ l) (f := f) (g := g)
        (fun y l s h => ⟨hP y l s h.1, fun hm => h.2 (List.mem_cons_of_mem y hm)⟩)
        (fun y l s h => hother y l s (fun hyx => h.2 (hyx ▸ List.mem_cons_self)) h.1) ⟨hP x l s hs, hxl⟩
      exact hrest.1.trans (hsame l s hs)
    · exact (ih hl ((List.mem_cons.1 ho).resolve_left (Ne.symm hxo)) (hP x l s hs)).trans (congrArg G (hother x l s hxo hs))

theorem eachOf_keeps (hother : ∀ x ∈ l, ∀ s, g (f x s) = g s) (s : State) : g (eachOf l f s) = g s :=
  (eachOf_keeps_of (P := fun k _ => ∀ x ∈ k, x ∈ l) (fun _ _ _ h => fun y hy => h y (List.mem_cons_of_mem _ hy))
    (fun x _ s h => hother x (h x List.mem_cons_self) s) fun _ hx => hx).1

theorem eachOf_changes {o : α} {G : β → β} (hother : ∀ x ∈ l, x ≠ o → ∀ s, g (f x s) = g s)
    (hsame : ∀ s, g (f o s) = G (g s)) (hl : l.Nodup) (ho : o ∈ l) (s : State) : g (eachOf l f s) = G (g s) :=
  eachOf_changes_of (P := fun k _ => ∀ x ∈ k, x ∈ l) (fun _ _ _ h => fun y hy => h y (List.mem_cons_of_mem _ hy))
    (fun x _ s hxo h => hother x (h x List.mem_cons_self) hxo s) (fun _ s _ => hsame s) hl ho fun _ hx => hx

end

/-! ## The line command slot (R11) -/

/-- A chamber's slot after a command is posted to it at a time (R11). -/
def CommandSlot.posted (cmd : Command) (now : Seconds) (x : CommandSlot) : CommandSlot :=
  match x.pending with
  | none => { x with pending := some (cmd, now) }
  | some (old, time) =>
    match meet cmd old with
    | .replaced => { x with pending := some (cmd, time) }
    | .discarded => x
    | .bothRemoved => { x with pending := none }

theorem slot_postCommand (c o : ChamberNo) (cmd : Command) (s : State) :
    (postCommand c cmd s).slot o = if o = c then (s.slot c).posted cmd s.now else s.slot o := by
  by_cases ho : o = c
  · subst ho
    rw [if_pos rfl]
    cases hp : (s.slot o).pending with
    | none => simp only [postCommand, CommandSlot.posted, hp]; exact look_put_same ..
    | some x =>
      obtain ⟨old, time⟩ := x
      cases hm : meet cmd old <;> simp only [postCommand, CommandSlot.posted, hp, hm] <;> exact look_put_same ..
  · rw [if_neg ho]; exact (postCommand_step s c cmd).other ho

/-! ## Chambers taken into a visit (R121, step 3) -/

/-- What an opening visit reads and writes of one chamber. -/
structure Stall where
  chamber : Chamber
  slot    : CommandSlot
  entry   : Option Entry
  session : Option Session
  now     : Seconds

def stall (o : ChamberNo) (s : State) : Stall where
  chamber := s.chamber o
  slot := s.slot o
  entry := s.roundEntry o
  session := s.session o
  now := s.now

/-- The stall of a chamber taken into a visit (R121, step 3). -/
def Stall.involved (st : StationNo) (x : Stall) : Stall :=
  { x with chamber := { x.chamber with access := .locking }
           slot := if x.session.isNone then x.slot.posted .lock x.now else x.slot
           entry := x.entry.map fun e => { e with state := .inVisit st } }

section
variable (st : StationNo) (c o : ChamberNo) (s : State)

theorem entryInVisit_step : ListStep s (entryInVisit c st s) := rewriteEntry_step ..

/-- The chamber LOCKING with its entry IN_VISIT, before its LOCK is posted. -/
def lockingUp : State := setAccess c .locking (entryInVisit c st s)

theorem involve_eq : involve st c s =
    if (s.session c).isNone then postCommand c .lock (lockingUp st c s) else lockingUp st c s := by
  have hses : (lockingUp st c s).session c = s.session c := by
    rw [lockingUp, session_setAccess, State.session, (entryInVisit_step st c s).ret]; rfl
  rw [← hses]; rfl

theorem lockingUp_ret : (lockingUp st c s).ret = { s.ret with
    chambers := put s.ret.chambers c { s.chamber c with access := .locking }
    round := (entryInVisit c st s).ret.round } := by
  rw [lockingUp, setAccess_ret, (entryInVisit_step st c s).chamber, (entryInVisit_step st c s).ret]

theorem involve_ret : (involve st c s).ret = (lockingUp st c s).ret := by
  rw [involve_eq]
  split
  · exact (postCommand_step ..).ret
  · rfl

theorem stall_lockingUp : stall o (lockingUp st c s) =
    { stall o s with
      chamber := if o = c then { s.chamber c with access := .locking } else s.chamber o
      entry := if o = c then (s.roundEntry c).map fun e => { e with state := .inVisit st } else s.roundEntry o } := by
  have hslot : (lockingUp st c s).slot o = s.slot o := by
    obtain ⟨_, _, _, h⟩ := entryInVisit_step st c s
    rw [lockingUp, slot_setAccess, h]; rfl
  have hentry : (lockingUp st c s).roundEntry o = (entryInVisit c st s).roundEntry o :=
    roundEntry_of_sheet (sheet_setAccess ..) o
  have hchamber : (lockingUp st c s).chamber o = if o = c then { s.chamber c with access := .locking } else s.chamber o := by
    rw [State.chamber, lockingUp_ret]; exact look_put ..
  have hsession : (lockingUp st c s).session o = s.session o := by rw [State.session, lockingUp_ret]; rfl
  have hnow : (lockingUp st c s).now = s.now := by rw [State.now, lockingUp_ret]; rfl
  simp only [stall, hslot, hentry, hchamber, hsession, hnow, roundEntry_entryInVisit]

theorem stall_postCommand (cmd : Command) : stall o (postCommand c cmd s) =
    { stall o s with slot := if o = c then (s.slot c).posted cmd s.now else s.slot o } := by
  have hret := (postCommand_step s c cmd).ret
  simp only [stall, State.chamber, State.roundEntry, State.session, State.now, hret]
  rw [slot_postCommand]; rfl

theorem stall_involve_same : stall c (involve st c s) = (stall c s).involved st := by
  have hup := stall_lockingUp st c c s
  simp only [if_pos] at hup
  have hslot : (lockingUp st c s).slot c = s.slot c := congrArg Stall.slot hup
  have hnow : (lockingUp st c s).now = s.now := congrArg Stall.now hup
  rw [involve_eq]
  split
  · next h => rw [stall_postCommand, hup, if_pos rfl, hslot, hnow, Stall.involved, if_pos (by exact h)]; rfl
  · next h => rw [hup, Stall.involved, if_neg (by exact h)]; rfl

theorem stall_involve_other (h : o ≠ c) : stall o (involve st c s) = stall o s := by
  have hup := stall_lockingUp st c o s
  simp only [if_neg h] at hup
  rw [involve_eq]
  split
  · rw [stall_postCommand, if_neg h]; exact hup
  · exact hup

theorem involve_line : (involve st c s).main.line = s.main.line := by
  have hup : (lockingUp st c s).main.line = s.main.line := by
    obtain ⟨_, _, h⟩ := setAccess_spec c .locking (entryInVisit c st s)
    obtain ⟨_, _, _, hk⟩ := entryInVisit_step st c s
    rw [lockingUp, h, hk]
  rw [involve_eq]
  split
  · obtain ⟨_, _, h, -⟩ := postCommand_step (lockingUp st c s) c .lock
    rw [h]; exact hup
  · exact hup

/-- Taking chambers into a visit leaves the visit table, the sessions and the line. -/
theorem eachOf_involve_keeps (l : List ChamberNo) :
    (eachOf l (involve st) s).ret.visits = s.ret.visits ∧ (eachOf l (involve st) s).ret.sessions = s.ret.sessions ∧
      (eachOf l (involve st) s).main.line = s.main.line := by
  have hkeeps := eachOf_keeps (f := involve st) (l := l) (g := fun s => (s.ret.visits, s.ret.sessions, s.main.line))
    (fun c _ s => by simp only [involve_ret, lockingUp_ret, involve_line]) s
  simpa only [Prod.mk.injEq] using hkeeps

theorem stall_eachOf_involve {l : List ChamberNo} (hl : l.Nodup) :
    stall o (eachOf l (involve st) s) = if o ∈ l then (stall o s).involved st else stall o s := by
  split
  · next ho =>
    exact eachOf_changes (fun c _ hc s => stall_involve_other st c o s hc.symm) (stall_involve_same st o) hl ho s
  · next ho =>
    exact eachOf_keeps (fun c hc s => stall_involve_other st c o s fun h => ho (h ▸ hc)) s

end

/-! ## The chambers that a visit takes (R121, step 1) -/

/-- The visit takes the chamber: it is configured at the station and in service, with a WAITING entry in mode LISTED. -/
def takenBy (s : State) (st : StationNo) (mode : VisitMode) (o : ChamberNo) : Prop :=
  (∃ g, (s.chamber o).config = some g ∧ g.station = st) ∧ (s.access o = .opened ∨ s.access o = .full) ∧
    (mode = .all ∨ ∃ e, s.roundEntry o = some e ∧ e.state = .waiting)

theorem takenBy_of_ret {s t : State} (h : t.ret = s.ret) (st : StationNo) (mode : VisitMode) (o : ChamberNo) :
    takenBy t st mode o ↔ takenBy s st mode o := by
  simp only [takenBy, State.access, State.chamber, State.roundEntry, h]

theorem inService_iff {a : Access} : inService a = true ↔ a = .opened ∨ a = .full := by cases a <;> decide

theorem mem_chambersOf {s : State} {st : StationNo} {o : ChamberNo} :
    o ∈ s.chambersOf st ↔ ∃ g, (s.chamber o).config = some g ∧ g.station = st := by
  simp [State.chambersOf, indexes]

theorem mem_wouldInvolve {s : State} {st : StationNo} {mode : VisitMode} {o : ChamberNo} :
    o ∈ s.wouldInvolve st mode ↔ takenBy s st mode o := by
  simp only [State.wouldInvolve, List.mem_filter, mem_chambersOf, takenBy, Bool.and_eq_true, Bool.or_eq_true,
    inService_iff, decide_eq_true_eq, Option.any_eq_true]

theorem wouldInvolve_ascends (s : State) (st : StationNo) (mode : VisitMode) :
    (s.wouldInvolve st mode).Pairwise (· < ·) :=
  ((List.pairwise_lt_finRange 64).filter _).filter _

/-- The record of a visit as it opens (R121, step 2). -/
def openedVisit (s : State) (st : StationNo) (crew : CardNo) (mode : VisitMode) : Visit where
  station := st
  crew := crew
  mode := mode
  opened := s.now
  deadline := some (s.deadlineIn s.ret.settings.visitWindow)
  involved := (s.wouldInvolve st mode).map fun c =>
    { chamber := c, phase := if (s.session c).isSome then .draining else .locking }

theorem openedVisit_chambers (s : State) (st : StationNo) (crew : CardNo) (mode : VisitMode) :
    (openedVisit s st crew mode).involved.map (·.chamber) = s.wouldInvolve st mode := by
  simp [openedVisit, Function.comp_def]

theorem openedVisit_phaseOf {s : State} {st : StationNo} {mode : VisitMode} {o : ChamberNo} (ho : takenBy s st mode o)
    (crew : CardNo) : (openedVisit s st crew mode).phaseOf o =
      some (if (s.session o).isSome then .draining else .locking) := by
  have hfind : (s.wouldInvolve st mode).find? (fun c => decide (c = o)) = some o := by
    cases h : (s.wouldInvolve st mode).find? (fun c => decide (c = o)) with
    | none =>
      have hno := List.find?_eq_none.1 h o (mem_wouldInvolve.2 ho)
      simp at hno
    | some x =>
      have hx := List.find?_some h
      rw [of_decide_eq_true hx]
  simp only [Visit.phaseOf, openedVisit, List.find?_map, Function.comp_def, hfind, Option.map_some]

section
variable (p : Fin 4) (st : StationNo) (crew : CardNo) (mode : VisitMode) (s : State)

/-- The visit's chambers taken, before its keys are posted (R121, step 3). -/
def chambersTaken : State :=
  eachOf (s.wouldInvolve st mode) (involve st) (s.setVisits (put s.ret.visits p (some (openedVisit s st crew mode))))

theorem openVisit_eq : openVisit p st crew mode s =
    abandonPreparation .visit (post .round (post (.visit st) (chambersTaken p st crew mode s))) := rfl

theorem openVisit_ret : (openVisit p st crew mode s).ret = (chambersTaken p st crew mode s).ret :=
  abandonPreparation_ret ..

theorem openVisit_visits :
    (openVisit p st crew mode s).ret.visits = put s.ret.visits p (some (openedVisit s st crew mode)) :=
  (congrArg Retained.visits (openVisit_ret ..)).trans (eachOf_involve_keeps ..).1

theorem openVisit_sessions : (openVisit p st crew mode s).ret.sessions = s.ret.sessions :=
  (congrArg Retained.sessions (openVisit_ret ..)).trans (eachOf_involve_keeps ..).2.1

theorem stall_chambersTaken (o : ChamberNo) : stall o (chambersTaken p st crew mode s) =
    if o ∈ s.wouldInvolve st mode then (stall o s).involved st else stall o s :=
  stall_eachOf_involve st o _ ((wouldInvolve_ascends s st mode).imp ne_of_lt)

theorem stall_openVisit (o : ChamberNo) : stall o (openVisit p st crew mode s) =
    if o ∈ s.wouldInvolve st mode then (stall o s).involved st else stall o s := by
  rw [← stall_chambersTaken p st crew mode s]
  have hret := openVisit_ret p st crew mode s
  simp only [stall, State.chamber, State.roundEntry, State.session, State.now, hret]
  rw [openVisit_eq, slot_abandonPreparation]; rfl

/-- A chamber that only settled visits name has its phase in the opened one. -/
theorem phaseOf_openVisit {o : ChamberNo} (ho : takenBy s st mode o)
    (hfinal : ∀ q v ph, look s.ret.visits q = some v → v.phaseOf o = some ph → ph.final = true) :
    (openVisit p st crew mode s).phaseOf o = some (if (s.session o).isSome then .draining else .locking) := by
  have hvis := openVisit_visits p st crew mode s
  have hph := openedVisit_phaseOf ho crew
  have hof : (openVisit p st crew mode s).visitOf o = some p := by
    refine lowest_of_first ?_ fun q hq => ?_
    · rw [hvis, look_put_same]
      simp only [Option.any_some, Visit.worksOn, hph]
      split <;> rfl
    · rw [hvis, look_put_other _ _ _ _ hq.ne]
      cases hv : look s.ret.visits q with
      | none => rfl
      | some v =>
        cases hvo : v.phaseOf o with
        | none => simp [Visit.worksOn, hvo]
        | some ph => simp [Visit.worksOn, hvo, hfinal q v ph hv hvo]
  rw [State.phaseOf, hof, Option.bind_some, hvis, look_put_same]
  exact hph

theorem posted_openVisit : posted .round (openVisit p st crew mode s) ∧ posted (.visit st) (openVisit p st crew mode s) :=
  ⟨posted_abandonPreparation _ (posted_post ..) _,
    posted_abandonPreparation _ (posted_post_of_posted (posted_post ..) _) _⟩

/-- An opening visit abandons a preparation (R165). -/
theorem openVisit_of_preparing (h : s.main.line.power.state = .preparing) :
    (openVisit p st crew mode s).main.line.power.state = .active ∧
      (openVisit p st crew mode s).main.line.power.cause = .visit := by
  have hline : (chambersTaken p st crew mode s).main.line = s.main.line := (eachOf_involve_keeps ..).2.2
  rw [openVisit_eq, abandonPreparation_of_preparing (by
    show (chambersTaken p st crew mode s).main.line.power.state = _
    rw [hline]; exact h)]
  exact ⟨rfl, rfl⟩

end

/-! ## The crew card (R120) -/

section
variable {s : State} {st : StationNo} {c : ChamberNo} {n : CardNo} {mode : VisitMode}

theorem takeCrew_own {p : Fin 4} {v : Visit} (hp : s.visitAt st = some p) (hv : look s.ret.visits p = some v)
    (hn : v.crew = n) : takeCrew st c n mode s = closeVisit p .closed s := by
  simp [takeCrew, hp, hv, hn]

theorem takeCrew_other {p : Fin 4} {v : Visit} (hp : s.visitAt st = some p) (hv : look s.ret.visits p = some v)
    (hn : v.crew ≠ n) : takeCrew st c n mode s = postCommand c (.deny .visitOpen) s := by
  simp [takeCrew, hp, hv, hn]

variable (hp : s.visitAt st = none)
include hp

theorem takeCrew_visitLimit (hfull : ∀ p, (look s.ret.visits p).isSome = true) :
    takeCrew st c n mode s = postCommand c (.deny .visitLimit) s := by
  have hlow : (lowest fun p => (look s.ret.visits p).isNone) = none := lowest_eq_none.2 fun p => by
    simpa [Option.isSome_iff_ne_none] using hfull p
  simp only [takeCrew, hp, hlow]

theorem takeCrew_nothingListed (hroom : ∃ p, look s.ret.visits p = none) (hnone : ∀ o, ¬ takenBy s st mode o) :
    takeCrew st c n mode s = postCommand c (.deny .nothingListed) s := by
  have hempty : s.wouldInvolve st mode = [] :=
    List.eq_nil_iff_forall_not_mem.2 fun o ho => hnone o (mem_wouldInvolve.1 ho)
  cases hlow : lowest fun p => (look s.ret.visits p).isNone with
  | none =>
    obtain ⟨p, hfree⟩ := hroom
    have := lowest_eq_none.1 hlow p
    simp [hfree] at this
  | some p => simp [takeCrew, hp, hlow, hempty]

theorem takeCrew_opens {p : Fin 4} (hfree : look s.ret.visits p = none)
    (hlow : ∀ q, q < p → (look s.ret.visits q).isSome = true) {o : ChamberNo} (ho : takenBy s st mode o) :
    takeCrew st c n mode s = openVisit p st n mode s := by
  have hlowest : (lowest fun p => (look s.ret.visits p).isNone) = some p :=
    lowest_of_first (by simp [hfree]) fun q hq => by simpa [Option.isSome_iff_ne_none] using hlow q hq
  have hmem := mem_wouldInvolve.2 ho
  have hsome : (s.wouldInvolve st mode).isEmpty = false := by
    rw [List.isEmpty_eq_false_iff]; exact List.ne_nil_of_mem hmem
  simp [takeCrew, hp, hlowest, hsome]

end

theorem takeCard_crew {s : State} {st : StationNo} {sl : SlotNo} {c : ChamberNo} {n : CardNo} {i : Fin 8}
    {mode : VisitMode} (hm : s.mapped st sl = some c) (hg : (s.chamber c).config.isSome = true)
    (hacc : s.access c ≠ .offline) (hn : n ≠ 0) (hcard : s.findCard n = none) (hi : s.firstTemplate n = some i)
    (hkind : (look s.ret.templates i).kind = .crew mode) : takeCard (some st) sl n s = takeCrew st c n mode s := by
  obtain ⟨g, hg⟩ := Option.isSome_iff_exists.1 hg
  have hd : s.decide st c g n = .crew mode := by
    simp only [State.decide, if_neg hn, State.resolve, hcard, hi, hkind]
  simp only [takeCard, hm, hg, if_neg hacc, hd]

/-- Settles O41: the card resolves to a CREW template, and the visit it opens is read off its stages. -/
theorem crewCardOpensAVisit : Obligations.CrewCardOpensAVisit := by
  intro s a st sl c n i mode hv ht hst hmap hg hacc hn hcard hi hkind
  dsimp only
  have hret : (heard a s).ret = s.ret := heard_ret a s
  have hrun : exec (.attnReadEnd (.answered (answerFrame a 0x09 ([2, BitVec.ofNat 8 sl.val] ++ split40 n)))) s =
      .next (endTurn a true (takeCrew st c n mode (heard a s))) := by
    rw [exec_cardRead hv ht, hst, takeCard_crew (i := i) (c := c) (mode := mode)]
    all_goals simpa only [State.mapped, State.access, State.chamber, State.findCard, State.firstTemplate, hret] using ‹_›
  have hpost (d : DenyCode) (hcrew : takeCrew st c n mode (heard a s) = postCommand c (.deny d) (heard a s)) :
      exec (.attnReadEnd (.answered (answerFrame a 0x09 ([2, BitVec.ofNat 8 sl.val] ++ split40 n)))) s =
        .next (endTurn a true (postCommand c (.deny d) (heard a s))) := by rw [hrun, hcrew]
  have htaken := takenBy_of_ret hret st mode
  have hat : (heard a s).visitAt st = s.visitAt st := visitAt_of_visits (by rw [hret]) st
  have hlook (p : Fin 4) : look (heard a s).ret.visits p = look s.ret.visits p := by rw [hret]
  refine ⟨fun p v hp hw hne => ?other, fun p v hp hw heq => ?own, fun hp hfull => ?full, fun hp hroom hnone => ?nothing,
    fun p hp hfree hlow ⟨o, ho⟩ hfinal => ?opens⟩
  case other => exact hpost _ (takeCrew_other (hat.trans hp) ((hlook p).trans hw) hne)
  case own => rw [hrun, takeCrew_own (hat.trans hp) ((hlook p).trans hw) heq]
  case full => exact hpost _ (takeCrew_visitLimit (hat.trans hp) fun p => by rw [hlook]; exact hfull p)
  case nothing =>
    obtain ⟨p, hfree⟩ := hroom
    exact hpost _ (takeCrew_nothingListed (hat.trans hp) ⟨p, (hlook p).trans hfree⟩ fun o ho => hnone o ((htaken o).1 ho))
  case opens =>
    have hcrew : takeCrew st c n mode (heard a s) = openVisit p st n mode (heard a s) :=
      takeCrew_opens (hat.trans hp) ((hlook p).trans hfree) (fun q hq => by rw [hlook]; exact hlow q hq)
        ((htaken o).2 ho)
    have hslot (o : ChamberNo) : (heard a s).slot o = s.slot o := by rw [State.slot, heard_main_slots]; rfl
    have hstall (o : ChamberNo) : stall o (heard a s) = stall o s := by
      simp only [stall, State.chamber, State.roundEntry, State.session, State.now, hret, hslot]
    have hopened (o : ChamberNo) (ho : takenBy s st mode o) :
        stall o (openVisit p st n mode (heard a s)) = (stall o s).involved st := by
      rw [stall_openVisit, if_pos (mem_wouldInvolve.2 ((htaken o).2 ho)), hstall]
    refine ⟨_, openedVisit (heard a s) st n mode, hrun.trans (by rw [hcrew]), ?_, rfl, rfl, rfl,
      congrArg (fun r : Retained => r.clock.part) hret, ?_, ?_, fun o => ?_, fun o ho => ⟨?_, ?_, fun hses hnone => ?_,
      fun e he => ?_⟩, fun o ho => ?_, ?_, (posted_openVisit ..).1, (posted_openVisit ..).2, fun hpw => ?_⟩
    · rw [openVisit_visits, look_put_same]
    · simp only [openedVisit, State.deadlineIn, State.elapsed, hret]
    · rw [openedVisit_chambers]; exact wouldInvolve_ascends ..
    · rw [openedVisit_chambers, mem_wouldInvolve]; exact htaken o
    · exact congrArg (fun x : Stall => x.chamber.access) (hopened o ho)
    · rw [phaseOf_openVisit p st n mode _ ((htaken o).2 ho) fun q v ph hw hvph => ?_]
      · rw [show (heard a s).session o = s.session o from congrArg Stall.session (hstall o)]
      · exact hfinal q v ((hlook q).symm.trans hw) o ph ho hvph
    · refine (congrArg (fun x : Stall => x.slot.pending) (hopened o ho)).trans ?_
      simp [Stall.involved, stall, hses, CommandSlot.posted, hnone]
    · refine (congrArg Stall.entry (hopened o ho)).trans ?_
      simp [Stall.involved, stall, he]
    · refine (congrArg Stall.chamber ((stall_openVisit ..).trans ?_)).trans (congrArg Stall.chamber (hstall o))
      exact if_neg fun hmem => ho ((htaken o).1 (mem_wouldInvolve.1 hmem))
    · rw [openVisit_sessions, hret]
    · exact openVisit_of_preparing p st n mode _ ((heard_power_state a s).trans hpw)

end Sys2Proof.Machine
end

section
/-! PROOFS. What threshold evaluation makes of the round list (R33 to R36, R112, R113). -/

namespace Sys2Proof.Machine

/-! ## The length of the list -/

section
variable (s : State) (c : ChamberNo)

theorem length_of_sheet {t : State} {l : List Entry} (h : (sheet t).entries = l) : t.ret.round.length = l.length :=
  congrArg List.length h

theorem length_changeRound (l : List Entry) : (changeRound l s).ret.round.length = l.length :=
  length_of_sheet (by rw [sheet_changeRound])

theorem length_setCandidate (b : Bool) : (setCandidate c b s).ret.round.length = s.ret.round.length :=
  length_of_sheet (by rw [sheet_setCandidate]; rfl)

theorem length_makeEntry_le (u : Urgency) (forced : Bool) :
    (makeEntry c u forced s).ret.round.length ≤ s.ret.round.length + 1 := by
  cases hg : (s.chamber c).config with
  | none => rw [makeEntry_of_unconfigured hg]; exact Nat.le_succ _
  | some g => rw [makeEntry_of_config hg, length_changeRound, (joinClass_perm ..).length_eq]; rfl

theorem length_roundWithout_lt {s : State} {c : ChamberNo} {e : Entry} (he : s.roundEntry c = some e) :
    (roundWithout c s).ret.round.length < s.ret.round.length := by
  obtain ⟨hmem, hec⟩ := mem_of_roundEntry he
  rw [roundWithout, length_changeRound]
  exact length_withoutEntry_lt hmem hec

theorem length_removeEntry_le : (removeEntry c s).ret.round.length ≤ s.ret.round.length := by
  cases he : s.roundEntry c with
  | none => rw [removeEntry_of_unlisted he]
  | some e =>
    rw [removeEntry_of_listed he]
    have hlt := length_roundWithout_lt he
    unfold admitCandidate
    split
    · exact hlt.le
    · next d _ =>
      have hmake := length_makeEntry_le (setCandidate d false (roundWithout c s)) d
        (urgencyBy ((roundWithout c s).access d)) false
      rw [length_setCandidate] at hmake
      omega

theorem length_promote_le : (promote c s).ret.round.length ≤ s.ret.round.length := by
  cases he : s.roundEntry c with
  | none => simp only [promote, he, le_refl]
  | some e =>
    obtain ⟨hmem, hec⟩ := mem_of_roundEntry he
    simp only [promote, he]
    split
    · rw [length_changeRound, (joinClass_perm ..).length_eq]
      exact length_withoutEntry_lt hmem hec
    · exact le_rfl

theorem length_takeOffer_le (b : Bool) : (takeOffer c b s).ret.round.length ≤ s.ret.round.length + 1 := by
  unfold takeOffer
  split
  · exact length_makeEntry_le ..
  split
  · next e _ =>
    refine (length_makeEntry_le ..).trans (Nat.succ_le_succ ?_)
    rw [length_setCandidate, length_changeRound]
    exact List.length_filter_le ..
  · rw [length_setCandidate]; exact Nat.le_succ _

theorem length_entryWaits_le (b : Bool) : (entryWaits c b s).ret.round.length ≤ s.ret.round.length := by
  have hplace : (waitedInPlace s c b).ret.round.length = s.ret.round.length := by
    rw [waitedInPlace, rewriteEntry, length_changeRound, List.length_map]
  rw [entryWaits_eq]
  split
  · exact (length_promote_le ..).trans hplace.le
  · exact hplace.le

end

/-! ## The steps of an evaluation -/

section
variable (g : ChamberConfig) (c : ChamberNo) (s : State)

theorem accessStep_eq : accessStep g c s = setAccess c (accessAt g (s.fill c) (s.access c)) s := by
  have hsame : ∀ a, s.access c = a → setAccess c a s = s := fun a ha => if_pos ha
  unfold accessStep
  split
  · next h =>
    rw [h]
    simp only [accessAt]
    split <;> simp [*]
  · next h =>
    rw [h]
    simp only [accessAt]
    split <;> simp [*]
  · next hopened hfull =>
    refine (hsame _ ?_).symm
    cases h : s.access c <;> simp_all [accessAt]

theorem withdrawalStep_step : ListStep s (withdrawalStep g c s) := by
  unfold withdrawalStep
  split
  · dsimp only
    refine ListStep.trans ?_ (setCandidate_step ..)
    split
    · split
      · exact removeEntry_step ..
      · exact .refl s
    · exact .refl s
  · exact .refl s

theorem offerStep_step : ListStep s (offerStep g c s) := by
  unfold offerStep
  split
  · exact takeOffer_step ..
  · exact .refl s

theorem promotionStep_step : ListStep s (promotionStep c s) := by
  unfold promotionStep
  split
  · exact promote_step ..
  · exact .refl s

/-- The steps of an evaluation that follow the access step: the withdrawal, the offer and the promotion (R33). -/
def listSteps : State := promotionStep c (offerStep g c (withdrawalStep g c s))

theorem listSteps_step : ListStep s (listSteps g c s) :=
  ((withdrawalStep_step g c s).trans (offerStep_step g c _)).trans (promotionStep_step c _)

theorem length_listSteps_le : (listSteps g c s).ret.round.length ≤ s.ret.round.length + 1 := by
  have hwithdraw : (withdrawalStep g c s).ret.round.length ≤ s.ret.round.length := by
    unfold withdrawalStep
    split
    · dsimp only
      rw [length_setCandidate]
      split
      · split
        · exact length_removeEntry_le ..
        · exact le_rfl
      · exact le_rfl
    · exact le_rfl
  have hoffer : (offerStep g c (withdrawalStep g c s)).ret.round.length ≤ s.ret.round.length + 1 := by
    unfold offerStep
    split
    · exact (length_takeOffer_le ..).trans (Nat.succ_le_succ hwithdraw)
    · exact hwithdraw.trans (Nat.le_succ _)
  unfold listSteps promotionStep
  split
  · exact (length_promote_le ..).trans hoffer
  · exact hoffer

end

theorem evaluate_eq {s : State} {c : ChamberNo} {g : ChamberConfig} (hg : (s.chamber c).config = some g) :
    evaluate c s = listSteps g c (setAccess c (accessAt g (s.fill c) (s.access c)) s) := by
  rw [← accessStep_eq]
  unfold evaluate
  rw [hg]
  rfl

theorem evaluate_of_unconfigured {s : State} {c : ChamberNo} (hg : (s.chamber c).config = none) :
    evaluate c s = s := by
  unfold evaluate
  rw [hg]

/-- Threshold evaluation changes no chamber's record but the access state of its own. -/
theorem chamber_evaluate {s : State} {c : ChamberNo} {g : ChamberConfig} (hg : (s.chamber c).config = some g)
    (o : ChamberNo) : (evaluate c s).chamber o =
      { s.chamber o with access := if o = c then accessAt g (s.fill c) (s.access c) else s.access o } := by
  rw [evaluate_eq hg, (listSteps_step g c _).chamber, chamber_setAccess]; rfl

theorem slot_evaluate (c o : ChamberNo) (s : State) : (evaluate c s).slot o = s.slot o := by
  have hslots := congrArg (fun t : State => look t.main.slots o) (listFree_evaluate s c)
  exact hslots

/-! ## The entries after the list steps -/

section
variable {s : State} (h : (sheet s).Tidy) (g : ChamberConfig) {c o : ChamberNo}
include h

omit h in
/-- A removal gives no chamber a candidate flag. -/
theorem candidate_removeEntry (ho : s.candidate o = false) : (removeEntry c s).candidate o = false := by
  cases he : s.roundEntry c with
  | none => rwa [removeEntry_of_unlisted he]
  | some e =>
    rw [removeEntry_of_listed he]
    unfold admitCandidate
    split
    · rwa [candidate_roundWithout]
    · rw [candidate_makeEntry, candidate_setCandidate, candidate_roundWithout]
      split
      · rfl
      · exact ho

omit h in
theorem candidate_withdrawalStep (ho : s.candidate o = false) : (withdrawalStep g c s).candidate o = false := by
  have hset (t : State) (ht : t.candidate o = false) : (setCandidate c false t).candidate o = false := by
    rw [candidate_setCandidate]
    split
    · rfl
    · exact ht
  unfold withdrawalStep
  split
  · refine hset _ ?_
    split
    · split
      · exact candidate_removeEntry ho
      · exact ho
    · exact ho
  · exact ho

/-- The entry of a chamber that is no candidate stands through another's withdrawal. -/
theorem roundEntry_withdrawalStep_other (hoc : o ≠ c) (ho : s.candidate o = false) :
    (withdrawalStep g c s).roundEntry o = s.roundEntry o := by
  unfold withdrawalStep
  split
  · dsimp only
    rw [roundEntry_setCandidate]
    split
    · next e he =>
      split
      · exact (roundEntry_removeEntry h he ho).trans (if_neg hoc)
      · rfl
    · rfl
  · rfl

/-- No entry is displaced: there is room, or the chamber is listed, or it is not FULL (R112). -/
def Undisplaced (c : ChamberNo) (s : State) : Prop :=
  s.ret.round.length < Config.roundRoom ∨ (s.roundEntry c).isSome = true ∨ s.access c ≠ .full

theorem roundEntry_offerStep_other (hoc : o ≠ c) (ho : s.candidate o = false) (hkeep : Undisplaced c s) :
    (offerStep g c s).roundEntry o = s.roundEntry o ∧ (offerStep g c s).candidate o = false := by
  unfold offerStep
  split
  case isFalse => exact ⟨rfl, ho⟩
  case isTrue hoffer =>
    obtain ⟨-, hnew, hflag⟩ := hoffer
    have hnew := Option.isNone_iff_eq_none.1 hnew
    have hmake (hroom : s.ret.round.length < Config.roundRoom) (u : Urgency) :
        (makeEntry c u false s).roundEntry o = s.roundEntry o := by
      cases hg : (s.chamber c).config with
      | none => rw [makeEntry_of_unconfigured hg]
      | some g => exact (roundEntry_makeEntry h c o hg hroom hnew hflag u false).trans (if_neg hoc)
    unfold takeOffer
    split
    · next hroom => exact ⟨hmake hroom _, (candidate_makeEntry ..).trans ho⟩
    · next hroom =>
      have hfull : s.access c ≠ .full := by
        rcases hkeep with hk | hk | hk
        · exact absurd hk hroom
        · rw [hnew] at hk; cases hk
        · exact hk
      simp only [hfull, decide_false]
      exact ⟨roundEntry_setCandidate .., (candidate_setCandidate ..).trans ((if_neg hoc).trans ho)⟩

omit h in
theorem candidate_promote (c o : ChamberNo) (s : State) : (promote c s).candidate o = s.candidate o := by
  unfold promote; repeat' split
  · exact candidate_changeRound ..
  all_goals rfl

omit h in
theorem candidate_promotionStep (c o : ChamberNo) (s : State) : (promotionStep c s).candidate o = s.candidate o := by
  unfold promotionStep
  split
  · exact candidate_promote c o s
  · rfl

theorem roundEntry_promotionStep (o : ChamberNo) : (promotionStep c s).roundEntry o =
    if o = c ∧ s.access c = .full then
      (s.roundEntry c).map fun e => if e.state = .waiting then { e with urgency := .urgent } else e
    else s.roundEntry o := by
  unfold promotionStep
  by_cases hoc : o = c
  · subst hoc
    cases he : s.roundEntry o with
    | none => simp [he]
    | some e =>
      by_cases hacc : s.access o = .full
      · by_cases hw : e.state = .waiting
        · rw [if_pos (by simp [hacc, hw]), roundEntry_promote h, if_pos rfl, he, if_pos ⟨rfl, hacc⟩]
          simp [hw]
        · rw [if_neg (by simp [hw]), he, if_pos ⟨rfl, hacc⟩]
          simp [hw]
      · rw [if_neg (fun hp => hacc hp.1), if_neg (fun hp => hacc hp.2), he]
  · simp only [hoc, false_and, if_false]
    split
    · exact (roundEntry_promote h c o).trans (if_neg hoc)
    · rfl

theorem roundEntry_withdrawalStep_same {e : Entry} (he : s.roundEntry c = some e) : (withdrawalStep g c s).roundEntry c =
    if s.fill c < g.request - 50 ∧ e.state = .waiting ∧ e.forced = false then none else some e := by
  unfold withdrawalStep
  by_cases hfill : s.fill c < g.request - 50
  · rw [if_pos hfill]
    dsimp only
    rw [roundEntry_setCandidate, he]
    dsimp only
    by_cases hw : e.state = .waiting ∧ e.forced = false
    · rw [if_pos hw, if_pos ⟨hfill, hw⟩]
      exact (roundEntry_removeEntry h he (candidate_of_listed h he)).trans (if_pos rfl)
    · rw [if_neg hw, if_neg (fun hp => hw hp.2), he]
  · rw [if_neg hfill, if_neg (fun hp => hfill hp.1), he]

omit h in
/-- A listed chamber, or one below its withdrawal threshold, is offered nothing. -/
theorem offerStep_of_not_offered (hno : (s.roundEntry c).isSome = true ∨ s.fill c < g.request) :
    offerStep g c s = s := by
  refine if_neg fun ⟨hfill, hnew, _⟩ => ?_
  rcases hno with hno | hno
  · rw [Option.isNone_iff_eq_none.1 hnew] at hno; cases hno
  · exact Nat.not_le.2 hno hfill

omit h in
theorem undisplaced_withdrawalStep (hkeep : Undisplaced c s) (hlisted : (s.roundEntry c).isSome = true →
    (withdrawalStep g c s).roundEntry c = s.roundEntry c) : Undisplaced c (withdrawalStep g c s) := by
  rcases hkeep with hk | hk | hk
  · refine .inl (lt_of_le_of_lt ?_ hk)
    unfold withdrawalStep
    split
    · dsimp only
      rw [length_setCandidate]
      split
      · split
        · exact length_removeEntry_le ..
        · exact le_rfl
      · exact le_rfl
    · exact le_rfl
  · exact .inr (.inl (by rw [hlisted hk]; exact hk))
  · exact .inr (.inr (by rwa [(withdrawalStep_step g c s).access]))

/-- The entry of a chamber that is no candidate stands through another's evaluation, where nothing is displaced. -/
theorem roundEntry_listSteps_other (hoc : o ≠ c) (ho : s.candidate o = false) (hkeep : Undisplaced c s) :
    (listSteps g c s).roundEntry o = s.roundEntry o ∧ (listSteps g c s).candidate o = false := by
  have hentry := roundEntry_withdrawalStep_other h g hoc ho
  have hflag : (withdrawalStep g c s).candidate o = false := candidate_withdrawalStep g ho
  have htidy := tidy_withdrawalStep h c g
  have hoffer : (offerStep g c (withdrawalStep g c s)).roundEntry o = s.roundEntry o ∧
      (offerStep g c (withdrawalStep g c s)).candidate o = false := by
    by_cases hno : (withdrawalStep g c s).fill c < g.request
    · rw [offerStep_of_not_offered g (.inr hno)]
      exact ⟨hentry, hflag⟩
    · have hlisted : (s.roundEntry c).isSome = true → (withdrawalStep g c s).roundEntry c = s.roundEntry c := fun hl => by
        obtain ⟨e, he⟩ := Option.isSome_iff_exists.1 hl
        rw [(withdrawalStep_step g c s).fill] at hno
        rw [roundEntry_withdrawalStep_same h g he, if_neg (fun hp => hno (by omega)), he]
      obtain ⟨hentry', hflag'⟩ := roundEntry_offerStep_other htidy g hoc hflag
        (undisplaced_withdrawalStep g hkeep hlisted)
      exact ⟨hentry'.trans hentry, hflag'⟩
  refine ⟨?_, (candidate_promotionStep ..).trans hoffer.2⟩
  exact (roundEntry_promotionStep (tidy_offerStep htidy c g) o).trans ((if_neg fun hp => hoc hp.1).trans hoffer.1)

/-- A listed chamber is offered nothing in its evaluation. -/
theorem listSteps_of_listed {e : Entry} (he : s.roundEntry c = some e) :
    listSteps g c s = promotionStep c (withdrawalStep g c s) := by
  have hoffer : offerStep g c (withdrawalStep g c s) = withdrawalStep g c s := by
    refine offerStep_of_not_offered g ?_
    by_cases hp : s.fill c < g.request - 50 ∧ e.state = .waiting ∧ e.forced = false
    · exact .inr (by rw [(withdrawalStep_step g c s).fill]; omega)
    · exact .inl (by rw [roundEntry_withdrawalStep_same h g he, if_neg hp]; rfl)
  rw [listSteps, hoffer]

/-- An evaluation withdraws a listed chamber's entry, or promotes it where the chamber is FULL (R35, R36). -/
theorem roundEntry_listSteps_same {e : Entry} (he : s.roundEntry c = some e) : (listSteps g c s).roundEntry c =
    if s.fill c < g.request - 50 ∧ e.state = .waiting ∧ e.forced = false then none
    else some (if s.access c = .full ∧ e.state = .waiting then { e with urgency := .urgent } else e) := by
  rw [listSteps_of_listed h g he, roundEntry_promotionStep (tidy_withdrawalStep h c g),
    roundEntry_withdrawalStep_same h g he, (withdrawalStep_step g c s).access]
  by_cases hp : s.fill c < g.request - 50 ∧ e.state = .waiting ∧ e.forced = false
  · simp [hp]
  · rw [if_neg hp, if_neg hp, Option.map_some]
    by_cases hacc : s.access c = .full
    · by_cases hw : e.state = .waiting <;> simp [hacc, hw]
    · simp [hacc]

theorem candidate_listSteps_same {e : Entry} (he : s.roundEntry c = some e) : (listSteps g c s).candidate c = false := by
  rw [listSteps_of_listed h g he, candidate_promotionStep]
  exact candidate_withdrawalStep g (candidate_of_listed h he)

end

end Sys2Proof.Machine
end

section
/-! PROOFS. The close of a visit (R114, R130), and its deadline (R131). -/

namespace Sys2Proof.Machine

/-! ## A chamber at the close of its visit -/

/-- The line command slot's part in the close: a LOCK is taken back, or a RELEASE posted (R130). -/
def closingSlot (i : Involved) (s : State) : State :=
  match i.phase with
  | .locking => removePending (· = .lock) i.chamber s
  | .locked => postCommand i.chamber .release s
  | _ => s

theorem closingSlot_step (i : Involved) (s : State) : SlotStep s (closingSlot i s) i.chamber := by
  unfold closingSlot
  split
  · exact removePending_step ..
  · exact postCommand_step ..
  · exact SlotStep.refl ..

/-- A chamber of a closing visit back OPEN or FULL, its entry WAITING, before its evaluation (R130). -/
def backInService (i : Involved) (s : State) : State :=
  entryWaits i.chamber true (setAccess i.chamber (byFill s i.chamber) (closingSlot i s))

theorem byFill_of_ret {s t : State} (h : t.ret = s.ret) (c : ChamberNo) : byFill t c = byFill s c := by
  unfold byFill State.fill State.chamber
  rw [h]

section
variable {i : Involved} {s : State}

theorem closeInvolved_of_final (h : i.phase.final = true) : closeInvolved i s = s := if_pos h

theorem closeInvolved_of_lifted (h : i.phase = .lifted) : closeInvolved i s = entryWaits i.chamber false s := by
  simp [closeInvolved, h, Phase.final]

/-- A chamber that is neither LOCKING nor LOCKED any more keeps its access state. -/
theorem closeInvolved_of_gone (hf : i.phase.final = false) (hl : i.phase ≠ .lifted)
    (ha : lockedUp (s.access i.chamber) = false) : closeInvolved i s = entryWaits i.chamber true s := by
  simp [closeInvolved, hf, hl, ha]

theorem closeInvolved_of_lockedUp (hf : i.phase.final = false) (hl : i.phase ≠ .lifted)
    (ha : lockedUp (s.access i.chamber) = true) : closeInvolved i s = evaluate i.chamber (backInService i s) := by
  rw [backInService, ← byFill_of_ret (closingSlot_step i s).ret]
  simp only [closeInvolved, hf, hl, ha, if_true, if_false, Bool.false_eq_true]
  rfl

end

/-! ## The chamber records and slots -/

/-- OPEN or FULL according to E (R7). -/
def Chamber.accessByFill (ch : Chamber) : Access :=
  match ch.config with
  | some g => if g.full ≤ ch.estimate.fill then .full else .opened
  | none => .opened

theorem byFill_eq (s : State) (c : ChamberNo) : byFill s c = (s.chamber c).accessByFill := rfl

/-- The close of the visit takes the chamber back into service (R130). -/
def returned (ph : Phase) (a : Access) : Bool := !ph.final && ph ≠ .lifted && lockedUp a

/-- A chamber's record after the close of a visit that names it in a phase. -/
def Chamber.closed (ph : Phase) (ch : Chamber) : Chamber :=
  if returned ph ch.access then { ch with access := ch.accessByFill } else ch

/-- A chamber's slot after the close of a visit that names it in a phase. -/
def CommandSlot.closed (ph : Phase) (a : Access) (now : Seconds) (x : CommandSlot) : CommandSlot :=
  if returned ph a = false then x
  else if ph = .locked then x.posted .release now
  else if ph = .locking ∧ x.pending.any (fun y => y.1 = .lock) = true then { x with pending := none }
  else x

theorem slot_removePending (p : Command → Bool) (c o : ChamberNo) (s : State) : (removePending p c s).slot o =
    if o = c ∧ (s.slot c).pending.any (fun y => p y.1) = true then { s.slot c with pending := none } else s.slot o := by
  by_cases hoc : o = c
  · subst hoc
    cases hp : (s.slot o).pending with
    | none => simp [removePending, hp]
    | some x =>
      obtain ⟨cmd, time⟩ := x
      by_cases hc : p cmd = true
      · simp only [removePending, hp, hc, if_true, Option.any_some, and_self]
        exact look_put_same ..
      · simp [removePending, hp, hc]
  · rw [if_neg fun h => hoc h.1]; exact (removePending_step s c p).other hoc

theorem returned_iff {ph : Phase} {a : Access} :
    returned ph a = true ↔ ph.final = false ∧ ph ≠ .lifted ∧ lockedUp a = true := by
  simp [returned, and_assoc]

/-- Where the close does not take a chamber back, it rewrites its entry alone. -/
theorem closeInvolved_of_not_returned {i : Involved} {s : State} (h : returned i.phase (s.access i.chamber) = false) :
    closeInvolved i s = s ∨ ∃ b, closeInvolved i s = entryWaits i.chamber b s := by
  by_cases hf : i.phase.final = true
  · exact .inl (closeInvolved_of_final hf)
  by_cases hl : i.phase = .lifted
  · exact .inr ⟨_, closeInvolved_of_lifted hl⟩
  · refine .inr ⟨_, closeInvolved_of_gone (Bool.eq_false_iff.2 hf) hl (Bool.eq_false_iff.2 fun ha => ?_)⟩
    rw [returned_iff.2 ⟨Bool.eq_false_iff.2 hf, hl, ha⟩] at h
    cases h

theorem closeInvolved_of_returned {i : Involved} {s : State} (h : returned i.phase (s.access i.chamber) = true) :
    closeInvolved i s = evaluate i.chamber (backInService i s) := by
  obtain ⟨hf, hl, ha⟩ := returned_iff.1 h
  exact closeInvolved_of_lockedUp hf hl ha

section
variable (i : Involved) (s : State)

theorem chamber_backInService (o : ChamberNo) : (backInService i s).chamber o =
    { s.chamber o with
      access := if o = i.chamber then (s.chamber i.chamber).accessByFill else (s.chamber o).access } := by
  have hslot : (closingSlot i s).chamber o = s.chamber o := by rw [State.chamber, (closingSlot_step i s).ret]; rfl
  rw [backInService, (entryWaits_step _ i.chamber true).chamber, chamber_setAccess, hslot, byFill_eq]

/-- An access state that follows E passes the access step unchanged (R34). -/
theorem accessAt_accessByFill {g : ChamberConfig} {ch : Chamber} (hg : ch.config = some g) :
    accessAt g ch.estimate.fill ch.accessByFill = ch.accessByFill := by
  simp only [Chamber.accessByFill, hg]
  by_cases hfull : g.full ≤ ch.estimate.fill
  · have hlow : ¬ ch.estimate.fill < g.full - 50 := by omega
    simp [accessAt, hfull, hlow]
  · simp [accessAt, hfull]

theorem chamber_evaluate_backInService (o : ChamberNo) :
    (evaluate i.chamber (backInService i s)).chamber o = (backInService i s).chamber o := by
  have hback := chamber_backInService i s i.chamber
  rw [if_pos rfl] at hback
  cases hg : ((backInService i s).chamber i.chamber).config with
  | none => rw [evaluate_of_unconfigured hg]
  | some g =>
    rw [chamber_evaluate hg]
    split
    · next ho =>
      rw [State.fill, State.access, ho, hback]
      have hsame := accessAt_accessByFill (g := g) (ch := s.chamber i.chamber) (by rw [hback] at hg; exact hg)
      dsimp only
      rw [hsame]
    · rfl

/-- The close of a visit changes the record of no chamber but the one it takes back. -/
theorem chamber_closeInvolved (o : ChamberNo) : (closeInvolved i s).chamber o =
    if o = i.chamber then (s.chamber o).closed i.phase else s.chamber o := by
  cases hr : returned i.phase (s.access i.chamber) with
  | true =>
    rw [closeInvolved_of_returned hr, chamber_evaluate_backInService, chamber_backInService]
    split
    · next ho => subst ho; exact (if_pos hr).symm
    · rfl
  | false =>
    have hsame : (closeInvolved i s).chamber o = s.chamber o := by
      rcases closeInvolved_of_not_returned hr with h | ⟨b, h⟩ <;> rw [h]
      exact (entryWaits_step s i.chamber b).chamber o
    rw [hsame]
    split
    · next ho => subst ho; exact (if_neg (Bool.eq_false_iff.1 hr)).symm
    · rfl

theorem slot_entryWaits (c o : ChamberNo) (b : Bool) : (entryWaits c b s).slot o = s.slot o := by
  obtain ⟨_, _, _, h⟩ := entryWaits_step s c b
  rw [h]; rfl

theorem slot_closeInvolved (o : ChamberNo) : (closeInvolved i s).slot o =
    if o = i.chamber then (s.slot o).closed i.phase (s.access o) s.now else s.slot o := by
  cases hr : returned i.phase (s.access i.chamber) with
  | true =>
    rw [closeInvolved_of_returned hr, slot_evaluate, backInService, slot_entryWaits, slot_setAccess]
    split
    · next ho =>
      subst ho
      rw [CommandSlot.closed, if_neg (by rw [hr]; exact Bool.true_eq_false.mp)]
      unfold closingSlot
      split
      · next hph => rw [slot_removePending]; simp [hph]
      · next hph => rw [slot_postCommand, if_pos rfl, if_pos hph]
      · next hlocking hlocked => rw [if_neg hlocked, if_neg fun hp => hlocking hp.1]
    · next ho => exact (closingSlot_step i s).other ho
  | false =>
    have hsame : (closeInvolved i s).slot o = s.slot o := by
      rcases closeInvolved_of_not_returned hr with h | ⟨b, h⟩ <;> rw [h]
      exact slot_entryWaits s i.chamber o b
    rw [hsame]
    split
    · next ho => subst ho; exact (if_pos hr).symm
    · rfl

/-- The close leaves the retained domain but for the chamber records and the round list. -/
theorem closeInvolved_ret : (listFree (closeInvolved i s)).ret = (listFree s).ret := by
  have hwaits (t : State) (b : Bool) : (listFree (entryWaits i.chamber b t)).ret = (listFree t).ret :=
    congrArg State.ret (listFree_entryWaits t i.chamber b)
  cases hr : returned i.phase (s.access i.chamber) with
  | true =>
    have hevaluate := congrArg State.ret (listFree_evaluate (backInService i s) i.chamber)
    have haccess := congrArg State.ret
      (listFree_setAccess (closingSlot i s) i.chamber (byFill s i.chamber))
    have hslot : (listFree (closingSlot i s)).ret = (listFree s).ret := by
      simp only [listFree, (closingSlot_step i s).ret]
    rw [closeInvolved_of_returned hr, hevaluate, backInService, hwaits, haccess, hslot]
  | false => rcases closeInvolved_of_not_returned hr with h | ⟨b, h⟩ <;> rw [h]; exact hwaits s b

theorem now_closeInvolved : (closeInvolved i s).now = s.now := by
  have hclock := congrArg (fun r : Retained => r.clock.part) (closeInvolved_ret i s)
  exact hclock

end

/-! ## The round entries -/

section
variable {s : State} {c o : ChamberNo}

theorem candidate_entryWaits (b : Bool) (o : ChamberNo) : (entryWaits c b s).candidate o = s.candidate o := by
  have hplace : (waitedInPlace s c b).candidate o = s.candidate o := candidate_changeRound ..
  rw [entryWaits_eq]
  split
  · exact (candidate_promote ..).trans hplace
  · exact hplace

theorem access_setAccess_same (a : Access) : (setAccess c a s).access c = a := by
  rw [State.access, chamber_setAccess]; exact if_pos rfl

variable (h : (sheet s).Tidy)
include h

/-- The entry of a chamber that is no candidate stands through another's evaluation, where there is room, or the other is
listed, or cannot be FULL (R112). -/
theorem roundEntry_evaluate_other (hoc : o ≠ c) (ho : s.candidate o = false)
    (hkeep : s.ret.round.length < Config.roundRoom ∨ (s.roundEntry c).isSome = true ∨
      ∀ g, accessAt g (s.fill c) (s.access c) ≠ .full) :
    (evaluate c s).roundEntry o = s.roundEntry o ∧ (evaluate c s).candidate o = false := by
  cases hg : (s.chamber c).config with
  | none => rw [evaluate_of_unconfigured hg]; exact ⟨rfl, ho⟩
  | some g =>
    have hsheet := sheet_setAccess s c (accessAt g (s.fill c) (s.access c))
    rw [evaluate_eq hg, ← roundEntry_of_sheet hsheet]
    refine roundEntry_listSteps_other (by rwa [hsheet]) g hoc ((candidate_of_sheet hsheet o).trans ho) ?_
    rcases hkeep with hk | hk | hk
    · exact .inl ((length_of_sheet (congrArg Sheet.entries hsheet)).trans_lt hk)
    · exact .inr (.inl (by rwa [roundEntry_of_sheet hsheet]))
    · exact .inr (.inr (by rw [access_setAccess_same]; exact hk g))

theorem roundEntry_evaluate_same {g : ChamberConfig} (hg : (s.chamber c).config = some g) {e : Entry}
    (he : s.roundEntry c = some e) : (evaluate c s).roundEntry c =
      if s.fill c < g.request - 50 ∧ e.state = .waiting ∧ e.forced = false then none
      else some (if accessAt g (s.fill c) (s.access c) = .full ∧ e.state = .waiting then { e with urgency := .urgent }
        else e) := by
  have hsheet := sheet_setAccess s c (accessAt g (s.fill c) (s.access c))
  have hfill : (setAccess c (accessAt g (s.fill c) (s.access c)) s).fill c = s.fill c := by
    rw [State.fill, chamber_setAccess]; rfl
  rw [evaluate_eq hg, roundEntry_listSteps_same (by rwa [hsheet]) g ((roundEntry_of_sheet hsheet c).trans he),
    access_setAccess_same, hfill]

theorem candidate_evaluate_same {e : Entry} (he : s.roundEntry c = some e) : (evaluate c s).candidate c = false := by
  have hsheet := sheet_setAccess s c
  cases hg : (s.chamber c).config with
  | none => rw [evaluate_of_unconfigured hg]; exact candidate_of_listed h he
  | some g =>
    rw [evaluate_eq hg]
    exact candidate_listSteps_same (by rwa [hsheet]) g ((roundEntry_of_sheet (hsheet _) c).trans he)

omit h in
theorem length_evaluate_le (c : ChamberNo) (s : State) : (evaluate c s).ret.round.length ≤ s.ret.round.length + 1 := by
  cases hg : (s.chamber c).config with
  | none => rw [evaluate_of_unconfigured hg]; exact Nat.le_succ _
  | some g =>
    rw [evaluate_eq hg]
    refine (length_listSteps_le ..).trans (Nat.succ_le_succ (le_of_eq ?_))
    exact length_of_sheet (congrArg Sheet.entries (sheet_setAccess ..))

end

/-! ## The round entries of a closing visit -/

/-- A listed entry of a chamber that the close takes back, after its evaluation (R35, R36, R114). -/
def Entry.returned (ch : Chamber) (e : Entry) : Option Entry :=
  match ch.config with
  | none => some (waited true e)
  | some g =>
    if ch.estimate.fill < g.request - 50 ∧ e.forced = false then none
    else some (if ch.accessByFill = .full then { waited true e with urgency := .urgent } else waited true e)

/-- A listed entry after the close of a visit that names its chamber in a phase (R114). -/
def Entry.closed (ph : Phase) (ch : Chamber) (e : Entry) : Option Entry :=
  if ph.final then some e
  else if ph = .lifted then some (waited false e)
  else if lockedUp ch.access then Entry.returned ch e
  else some (waited true e)

section
variable {s : State} (h : (sheet s).Tidy) {i : Involved} {o : ChamberNo}

theorem sheet_beforeWaits (i : Involved) (s : State) :
    sheet (setAccess i.chamber (byFill s i.chamber) (closingSlot i s)) = sheet s := by
  rw [sheet_setAccess, sheet_of_slotStep (closingSlot_step i s)]

theorem candidate_backInService (o : ChamberNo) : (backInService i s).candidate o = s.candidate o :=
  (candidate_entryWaits ..).trans (candidate_of_sheet (sheet_beforeWaits i s) o)

theorem length_backInService_le : (backInService i s).ret.round.length ≤ s.ret.round.length :=
  (length_entryWaits_le ..).trans (length_of_sheet (congrArg Sheet.entries (sheet_beforeWaits i s))).le

theorem length_closeInvolved_le (i : Involved) (s : State) :
    (closeInvolved i s).ret.round.length ≤ s.ret.round.length + 1 := by
  cases hr : Machine.returned i.phase (s.access i.chamber) with
  | true =>
    rw [closeInvolved_of_returned hr]
    exact (length_evaluate_le ..).trans (Nat.succ_le_succ length_backInService_le)
  | false =>
    rcases closeInvolved_of_not_returned hr with h | ⟨b, h⟩ <;> rw [h]
    · exact Nat.le_succ _
    · exact (length_entryWaits_le ..).trans (Nat.le_succ _)

include h

theorem tidy_backInService (i : Involved) : (sheet (backInService i s)).Tidy :=
  tidy_entryWaits (by rwa [sheet_beforeWaits]) ..

theorem roundEntry_backInService (i : Involved) (o : ChamberNo) : (backInService i s).roundEntry o =
    if o = i.chamber then (s.roundEntry i.chamber).map (waited true) else s.roundEntry o := by
  rw [backInService, roundEntry_entryWaits (by rwa [sheet_beforeWaits]), roundEntry_of_sheet (sheet_beforeWaits i s),
    roundEntry_of_sheet (sheet_beforeWaits i s)]

/-- The entry of a chamber that is no candidate stands through the close of another, where nothing is displaced. -/
theorem roundEntry_closeInvolved_other (hoi : o ≠ i.chamber) (ho : s.candidate o = false)
    (hkeep : s.ret.round.length < Config.roundRoom ∨ (s.roundEntry i.chamber).isSome = true) :
    (closeInvolved i s).roundEntry o = s.roundEntry o ∧ (closeInvolved i s).candidate o = false := by
  cases hr : Machine.returned i.phase (s.access i.chamber) with
  | true =>
    rw [closeInvolved_of_returned hr]
    have hback := roundEntry_backInService h i
    refine (roundEntry_evaluate_other (tidy_backInService h i) hoi ((candidate_backInService o).trans ho) ?_).imp_left
      fun hentry => hentry.trans ((hback o).trans (if_neg hoi))
    refine hkeep.imp length_backInService_le.trans_lt fun hl => .inl ?_
    rw [hback, if_pos rfl, Option.isSome_map]
    exact hl
  | false =>
    rcases closeInvolved_of_not_returned hr with hc | ⟨b, hc⟩ <;> rw [hc]
    · exact ⟨rfl, ho⟩
    · exact ⟨(roundEntry_entryWaits h ..).trans (if_neg hoi), (candidate_entryWaits ..).trans ho⟩

theorem candidate_closeInvolved_same {e : Entry} (he : s.roundEntry i.chamber = some e) :
    (closeInvolved i s).candidate i.chamber = false := by
  have hflag := candidate_of_listed h he
  cases hr : Machine.returned i.phase (s.access i.chamber) with
  | true =>
    rw [closeInvolved_of_returned hr]
    refine candidate_evaluate_same (tidy_backInService h i) (e := waited true e) ?_
    rw [roundEntry_backInService h, if_pos rfl, he]
    rfl
  | false =>
    rcases closeInvolved_of_not_returned hr with hc | ⟨b, hc⟩ <;> rw [hc]
    · exact hflag
    · exact (candidate_entryWaits ..).trans hflag

theorem roundEntry_closeInvolved_same {e : Entry} (he : s.roundEntry i.chamber = some e) :
    (closeInvolved i s).roundEntry i.chamber = Entry.closed i.phase (s.chamber i.chamber) e := by
  have hwaits (b : Bool) : (entryWaits i.chamber b s).roundEntry i.chamber = some (waited b e) := by
    rw [roundEntry_entryWaits h, if_pos rfl, he]; rfl
  unfold Entry.closed
  by_cases hf : i.phase.final = true
  · rw [if_pos hf, closeInvolved_of_final hf, he]
  rw [if_neg hf]
  by_cases hl : i.phase = .lifted
  · rw [if_pos hl, closeInvolved_of_lifted hl, hwaits]
  rw [if_neg hl]
  have hf := Bool.eq_false_iff.2 hf
  by_cases ha : lockedUp (s.access i.chamber) = true
  · have hback := roundEntry_backInService h i i.chamber
    have hrec := chamber_backInService i s i.chamber
    rw [if_pos rfl, he, Option.map_some] at hback
    rw [if_pos rfl] at hrec
    rw [closeInvolved_of_lockedUp hf hl ha, if_pos (by exact ha), Entry.returned]
    cases hg : (s.chamber i.chamber).config with
    | none => rw [evaluate_of_unconfigured (by rw [hrec]; exact hg), hback]
    | some g =>
      have hg' : ((backInService i s).chamber i.chamber).config = some g := by rw [hrec]; exact hg
      rw [roundEntry_evaluate_same (tidy_backInService h i) hg' hback]
      simp only [State.fill, State.access, hrec, accessAt_accessByFill hg]
      simp [waited]
  · rw [if_neg (by exact ha), closeInvolved_of_gone hf hl (Bool.eq_false_iff.2 ha), hwaits]

end

/-! ## The chambers of a closing visit, one after the other -/

section
variable {l : List Involved} {i : Involved} (hl : (l.map (·.chamber)).Nodup) (hi : i ∈ l)
include hl hi

/-- Each chamber's record and slot change by the close of that chamber alone. -/
theorem chamber_slot_closing (s : State) :
    (eachOf l closeInvolved s).chamber i.chamber = (s.chamber i.chamber).closed i.phase ∧
    (eachOf l closeInvolved s).slot i.chamber = (s.slot i.chamber).closed i.phase (s.access i.chamber) s.now := by
  have hview := eachOf_changes (f := closeInvolved) (l := l) (o := i)
    (g := fun s => ((s.chamber i.chamber, s.slot i.chamber, s.now) : Chamber × CommandSlot × Seconds))
    (G := fun (ch, sl, now) => (ch.closed i.phase, sl.closed i.phase ch.access now, now))
    (fun j hj hji s => ?_) (fun s => ?_) (List.Nodup.of_map _ hl) hi s
  · exact ⟨congrArg Prod.fst hview, congrArg (·.2.1) hview⟩
  · have hne : i.chamber ≠ j.chamber := fun h => hji (List.inj_on_of_nodup_map hl hj hi h.symm)
    simp only [chamber_closeInvolved, slot_closeInvolved, now_closeInvolved, hne, if_false]
  · simp only [chamber_closeInvolved, slot_closeInvolved, now_closeInvolved, if_true]
    rfl

end

/-- What stands while the chambers in `l` of a closing visit are still to be closed, and nothing can be displaced. -/
structure Closing (i : Involved) (e : Entry) (l : List Involved) (s : State) : Prop where
  tidy : (sheet s).Tidy
  distinct : (l.map (·.chamber)).Nodup
  own : ∀ j ∈ l, j.chamber = i.chamber → j = i
  unflagged : s.candidate i.chamber = false
  listed : i ∈ l → s.roundEntry i.chamber = some e
  room : s.ret.round.length + l.length ≤ Config.roundRoom ∨ ∀ j ∈ l, (s.roundEntry j.chamber).isSome = true

section
variable {i j : Involved} {e : Entry} {l : List Involved} {s : State} (h : Closing i e (j :: l) s)
include h

theorem Closing.undisplaced : s.ret.round.length < Config.roundRoom ∨ (s.roundEntry j.chamber).isSome = true := by
  refine h.room.imp (fun hroom => ?_) (fun hall => hall j List.mem_cons_self)
  rw [List.length_cons] at hroom
  omega

/-- The close of the first chamber touches no other listed one. -/
theorem Closing.other {o : ChamberNo} (hoj : o ≠ j.chamber) (ho : s.candidate o = false) :
    (closeInvolved j s).roundEntry o = s.roundEntry o ∧ (closeInvolved j s).candidate o = false :=
  roundEntry_closeInvolved_other h.tidy hoj ho h.undisplaced

theorem Closing.chamber_ne {k : Involved} (hk : k ∈ l) : k.chamber ≠ j.chamber := fun heq =>
  (List.nodup_cons.1 h.distinct).1 (List.mem_map.2 ⟨k, hk, heq⟩)

theorem Closing.next : Closing i e l (closeInvolved j s) where
  tidy := tidy_closeInvolved h.tidy j
  distinct := (List.nodup_cons.1 h.distinct).2
  own k hk := h.own k (List.mem_cons_of_mem j hk)
  unflagged := by
    by_cases hij : i.chamber = j.chamber
    · obtain rfl := h.own j List.mem_cons_self hij.symm
      exact candidate_closeInvolved_same h.tidy (h.listed List.mem_cons_self)
    · exact (h.other hij h.unflagged).2
  listed hi := (h.other (h.chamber_ne hi) h.unflagged).1.trans (h.listed (List.mem_cons_of_mem j hi))
  room := by
    rcases h.room with hroom | hall
    · have hlen := length_closeInvolved_le j s
      rw [List.length_cons] at hroom
      exact .inl (by omega)
    · refine .inr fun k hk => ?_
      have hlisted := hall k (List.mem_cons_of_mem j hk)
      obtain ⟨x, hx⟩ := Option.isSome_iff_exists.1 hlisted
      rwa [(h.other (h.chamber_ne hk) (candidate_of_listed h.tidy hx)).1]

end

/-- The entry of a listed chamber of a closing visit changes by the close of that chamber alone (R114). -/
theorem roundEntry_closing {i : Involved} {e : Entry} {l : List Involved} {s : State} (h : Closing i e l s) (hi : i ∈ l) :
    (eachOf l closeInvolved s).roundEntry i.chamber = Entry.closed i.phase (s.chamber i.chamber) e := by
  have hview := (eachOf_changes_of (f := closeInvolved) (o := i)
    (P := fun l x => Closing i e l x ∧ (i ∈ l → x.chamber i.chamber = s.chamber i.chamber))
    (g := fun x : State => x.roundEntry i.chamber)
    (G := fun _ => Entry.closed i.phase (s.chamber i.chamber) e)
    (fun j l x hx => ⟨hx.1.next, fun hil => ?_⟩) (fun j l x hji hx => ?_) (fun l x hx => ?_)
    (List.Nodup.of_map _ h.distinct) hi (s := s) ⟨h, fun _ => rfl⟩)
  · exact hview
  · rw [chamber_closeInvolved, if_neg (hx.1.chamber_ne hil)]
    exact hx.2 (List.mem_cons_of_mem j hil)
  · refine (hx.1.other (fun hij => hji (hx.1.own j List.mem_cons_self hij.symm)) hx.1.unflagged).1
  · rw [roundEntry_closeInvolved_same hx.1.tidy (hx.1.listed List.mem_cons_self), hx.2 List.mem_cons_self]

/-- What the close of chambers leaves of the retained domain. -/
theorem closing_ret (l : List Involved) (s : State) :
    (listFree (eachOf l closeInvolved s)).ret = (listFree s).ret :=
  eachOf_keeps (g := fun s => (listFree s).ret) (fun i _ s => closeInvolved_ret i s) s

/-! ## The deadline -/

section
variable {s : State} {st : StationNo} (hvdd : s.vdd = true)
include hvdd

theorem exec_visitDeadline_of_none (hp : s.visitAt st = none) : exec (.visitDeadline st) s = .next s := by
  have hreached : visitReached st s = s := by unfold visitReached; rw [hp]
  exact (whilePowered_of_vdd hvdd _).trans (congrArg _ hreached)

theorem exec_visitDeadline {p : Fin 4} {v : Visit} {d : Deadline} (hp : s.visitAt st = some p)
    (hv : look s.ret.visits p = some v) (hd : v.deadline = some d) : exec (.visitDeadline st) s =
      .next (settle (visitRecorded p v .expired (eachOf v.involved closeInvolved (passTo d s)))) := by
  have hreached : visitReached st s = settle (closeVisit p .expired (passTo d s)) := by
    unfold visitReached
    rw [hp]
    dsimp only
    rw [hv]
    dsimp only [Option.bind_some]
    rw [hd]
  rw [← closeVisit_eq (s := passTo d s) hv]
  exact (whilePowered_of_vdd hvdd _).trans (congrArg _ hreached)

end

theorem station_of_visitAt {s : State} {st : StationNo} {p : Fin 4} {v : Visit} (hp : s.visitAt st = some p)
    (hv : look s.ret.visits p = some v) : v.station = st := by
  have hthere := (lowest_eq_some hp).1
  rw [hv] at hthere
  simpa using hthere

section
variable {ph : Phase} {ch : Chamber}

theorem closed_of_kept (h : ph.final = true ∨ ph = .lifted) : ch.closed ph = ch := by
  refine if_neg fun hr => ?_
  obtain ⟨hf, hl, -⟩ := returned_iff.1 hr
  rcases h with h | h
  · rw [hf] at h; cases h
  · exact hl h

/-- The phases of a chamber that the close takes back. -/
theorem returned_of_working (h : ph = .draining ∨ ph = .locking ∨ ph = .locked) {a : Access}
    (ha : a = .locking ∨ a = .locked) : returned ph a = true := by
  refine returned_iff.2 ⟨?_, ?_, ?_⟩
  · rcases h with rfl | rfl | rfl <;> rfl
  · rcases h with rfl | rfl | rfl <;> simp
  · rcases ha with rfl | rfl <;> rfl

theorem accessByFill_of_config {g : ChamberConfig} (hg : ch.config = some g) :
    ch.accessByFill = if g.full ≤ ch.estimate.fill then .full else .opened := by
  rw [Chamber.accessByFill, hg]

theorem access_closed_of_returned {g : ChamberConfig} (hg : ch.config = some g) (hr : returned ph ch.access = true) :
    (ch.closed ph).access = if g.full ≤ ch.estimate.fill then .full else .opened := by
  rw [Chamber.closed, if_pos hr]
  exact accessByFill_of_config hg

theorem pending_closed_of_locked {a : Access} (ha : a = .locked) (now : Seconds) {x : CommandSlot} (hx : x.pending = none) :
    (x.closed .locked a now).pending = some (.release, now) := by
  subst ha
  simp [CommandSlot.closed, CommandSlot.posted, returned, Phase.final, lockedUp, hx]

theorem pending_closed_of_locking {a : Access} (ha : a = .locking) (now : Seconds) (x : CommandSlot) (time : Seconds) :
    (x.closed .locking a now).pending ≠ some (.lock, time) := by
  have hr : returned .locking a = true := returned_of_working (.inr (.inl rfl)) (.inl ha)
  intro hp
  by_cases hlock : x.pending.any (fun y => y.1 = .lock) = true
  · simp [CommandSlot.closed, hr, hlock] at hp
  · have hp : x.pending = some (.lock, time) := by simpa [CommandSlot.closed, hr, hlock] using hp
    simp [hp] at hlock

theorem closed_of_lifted (e : Entry) : e.closed .lifted ch = some { e with state := .waiting } := by
  simp [Entry.closed, waited, Phase.final]

theorem closed_of_working (h : ph = .draining ∨ ph = .locking ∨ ph = .locked)
    (ha : ch.access = .locking ∨ ch.access = .locked) (e : Entry) : e.closed ph ch = e.returned ch := by
  obtain ⟨hf, hl, hlocked⟩ := returned_iff.1 (returned_of_working h ha)
  rw [Entry.closed, if_neg (Bool.eq_false_iff.1 hf), if_neg hl, if_pos hlocked]

variable {g : ChamberConfig} (hg : ch.config = some g) {e : Entry}
include hg

theorem entryReturned_of_withdrawn (hforced : e.forced = false) (hfill : ch.estimate.fill < g.request - 50) :
    e.returned ch = none := by
  rw [Entry.returned, hg]; exact if_pos ⟨hfill, hforced⟩

theorem entryReturned_of_kept (hkept : e.forced = true ∨ g.request - 50 ≤ ch.estimate.fill) : e.returned ch = some { e with
    state := .waiting
    skips := min 15 (e.skips + 1)
    urgency := if e.skips = 2 ∨ g.full ≤ ch.estimate.fill then .urgent else e.urgency } := by
  have hnot : ¬ (ch.estimate.fill < g.request - 50 ∧ e.forced = false) := fun ⟨hfill, hforced⟩ => by
    rcases hkept with hk | hk
    · rw [hforced] at hk; cases hk
    · omega
  rw [Entry.returned, hg]
  dsimp only
  rw [if_neg hnot, accessByFill_of_config hg]
  by_cases hfull : g.full ≤ ch.estimate.fill <;> simp [hfull, waited]

end

/-- A visit's close may displace no entry: `Closing` holds of the state it begins in. -/
theorem closing_start {s : State} (hvdd : s.vdd = true) (hlaw : RoundLaw s) {l : List Involved}
    (hl : (l.map (·.chamber)).Nodup) {i : Involved} (hi : i ∈ l) {e : Entry} (he : s.roundEntry i.chamber = some e)
    (hroom : s.ret.round.length + l.length ≤ 32 ∨ ∀ j ∈ l, (s.roundEntry j.chamber).isSome = true) :
    Closing i e l s where
  tidy := (roundLaw_iff.1 hlaw) (.inl hvdd)
  distinct := hl
  own _ hj hji := List.inj_on_of_nodup_map hl hj hi hji
  unflagged := candidate_of_listed ((roundLaw_iff.1 hlaw) (.inl hvdd)) he
  listed _ := he
  room := hroom

theorem closing_passTo {i : Involved} {e : Entry} {l : List Involved} {s : State} (h : Closing i e l s) (d : Deadline) :
    Closing i e l (passTo d s) := ⟨h.tidy, h.distinct, h.own, h.unflagged, h.listed, h.room⟩

/-- Settles O49: the close is split into its chambers, each of which changes by its own close alone. -/
theorem visitDeadlineExpiresTheVisit : Obligations.VisitDeadlineExpiresTheVisit := by
  intro s st hvdd
  refine ⟨exec_visitDeadline_of_none hvdd, fun p v d hp hv hd hnodup => ?_⟩
  intro later
  obtain rfl := station_of_visitAt hp hv
  have hret := closing_ret v.involved later
  have hvisits := congrArg (fun r : Retained => r.visits) hret
  have hclock := congrArg (fun r : Retained => r.clock) hret
  have hsessions := congrArg (fun r : Retained => r.sessions) hret
  have hjournal := congrArg (fun r : Retained => r.journal) hret
  have hnow : (eachOf v.involved closeInvolved later).now = later.now := congrArg Clock.part hclock
  have hchamber (i : Involved) (hi : i ∈ v.involved) := chamber_slot_closing hnodup hi later
  refine ⟨visitRecorded p v .expired (eachOf v.involved closeInvolved later), exec_visitDeadline hvdd hp hv hd,
    look_put_same .., fun q hq => ?_, hclock,
    ⟨summaryOf v .expired (eachOf v.involved closeInvolved later).now, look_put_same .., rfl, rfl, hnow, rfl,
      List.countP_eq_length_filter, List.countP_eq_length_filter, List.countP_eq_length_filter,
      List.countP_eq_length_filter⟩,
    ?_, ?_, fun i hi hkept => ?_, fun i g hi hg => ⟨fun hph ha => ?_, fun hph ha => ⟨?_, fun hpending => ?_⟩,
      fun hph ha time => ?_⟩, fun i e hi he hlaw hroom => ?_, ?_, ?_⟩
  · exact (look_put_other _ _ _ _ hq).trans (congrArg (look · q) hvisits)
  · exact posted_post_of_posted (posted_post ..) .round
  · exact posted_post ..
  · exact congrArg Chamber.access ((hchamber i hi).1.trans (closed_of_kept hkept))
  · exact (congrArg Chamber.access (hchamber i hi).1).trans
      (access_closed_of_returned hg (returned_of_working (by tauto) (.inl ha)))
  · exact (congrArg Chamber.access (hchamber i hi).1).trans
      (access_closed_of_returned hg (returned_of_working (by tauto) (.inr ha)))
  · have hslot := (hchamber i hi).2
    rw [hph] at hslot
    exact (congrArg CommandSlot.pending hslot).trans (pending_closed_of_locked ha _ hpending)
  · have hslot := (hchamber i hi).2
    rw [hph] at hslot
    exact (congrArg CommandSlot.pending hslot).trans_ne (pending_closed_of_locking ha _ _ time)
  · have hentry := roundEntry_closing (closing_passTo (closing_start hvdd hlaw hnodup hi he hroom) d) hi
    refine ⟨fun hph => hentry.trans (by rw [hph]; exact closed_of_lifted e), fun g hg hph ha => ?_⟩
    have hentry := hentry.trans (closed_of_working hph ha e)
    exact ⟨fun hkept => hentry.trans (entryReturned_of_kept hg hkept),
      fun hforced hfill => hentry.trans (entryReturned_of_withdrawn hg hforced hfill)⟩
  · exact hsessions
  · exact hjournal

end Sys2Proof.Machine
end

section
/-! PROOFS. Chambers that go off line, and the sessions that close UNCONFIRMED with them (R15, R85, R142, R154). -/

namespace Sys2Proof.Machine

/-! ## Chambers that no evaluation moves -/

/-- The chamber is OFFLINE or without configuration: threshold evaluation leaves its access state (R33, R34). -/
def Dark (c : ChamberNo) (s : State) : Prop := (s.chamber c).config = none ∨ s.access c = .offline

theorem evaluate_step_of_dark {c : ChamberNo} {s : State} (h : Dark c s) : ListStep s (evaluate c s) := by
  cases hg : (s.chamber c).config with
  | none => rw [evaluate_of_unconfigured hg]; exact .refl s
  | some g =>
    have hoff : s.access c = .offline := h.resolve_left (by simp [hg])
    have hsame : setAccess c (accessAt g (s.fill c) (s.access c)) s = s := if_pos (by rw [hoff]; rfl)
    rw [evaluate_eq hg, hsame]
    exact listSteps_step ..

/-- The estimate of a chamber whose session closes UNCONFIRMED: one deposit step where it is configured (R20, R22). -/
def Chamber.counted (seated : Bool) (ch : Chamber) : Chamber :=
  { ch with estimate := if seated = true ∧ ch.config.isSome = true then stepped ch.estimate else ch.estimate }

/-- The deposit step of a configured chamber, before its evaluation (R22). -/
def deposited (c : ChamberNo) (s : State) : State :=
  post (.chamber c) (s.onEstimate c fun e => ({ e with count := min 1000 (e.count + 1) } : Estimate).refill)

theorem depositStep_of_unconfigured {c : ChamberNo} {s : State} (hg : (s.chamber c).config = none) :
    depositStep c s = s := by
  unfold depositStep; rw [hg]; rfl

theorem depositStep_of_configured {c : ChamberNo} {s : State} (hg : (s.chamber c).config ≠ none) :
    depositStep c s = evaluate c (deposited c s) := by
  unfold depositStep
  rw [if_neg (by simpa using hg)]
  rfl

theorem chamber_deposited_same (c : ChamberNo) (s : State) :
    (deposited c s).chamber c = { s.chamber c with estimate := stepped (s.chamber c).estimate } := by
  exact look_put_same ..

theorem dark_deposited {c : ChamberNo} {s : State} (h : Dark c s) : Dark c (deposited c s) := by
  unfold Dark State.access
  rw [chamber_deposited_same]
  exact h

/-! ## A session that closes UNCONFIRMED (R85) -/

/-- The state before the deposit step of a session that closes UNCONFIRMED (R85, steps 1 to 4). -/
def unseated (c : ChamberNo) (x : Session) (s : State) : State :=
  let s := s.setSession c none
  let s := if x.phase = .posted then removePending isUnlock c s else s
  settleJournal c x (some .unconfirmed) (settleAccount x (some .unconfirmed) s)

theorem closeSession_of_none {c : ChamberNo} {s : State} (hx : s.session c = none) :
    closeSession c (some .unconfirmed) false s = s := by
  unfold closeSession; rw [hx]

theorem closeSession_of_some {c : ChamberNo} {s : State} {x : Session} (hx : s.session c = some x) :
    closeSession c (some .unconfirmed) false s = depositStep c (unseated c x s) := by
  unfold closeSession; rw [hx]; rfl

theorem removePending_spec (p : Command → Bool) (c : ChamberNo) (s : State) :
    ∃ (slot : CommandSlot) (order : List ChamberNo),
      removePending p c s = { s with main := { s.main with slots := put s.main.slots c slot, posting := order } } ∧
        ((s.slot c).pending = none → slot = s.slot c ∧ order = s.main.posting) := by
  cases hp : (s.slot c).pending with
  | none =>
    have hsame : removePending p c s = s := by simp only [removePending, hp]
    have hput : put s.main.slots c (s.slot c) = s.main.slots := put_look ..
    exact ⟨s.slot c, s.main.posting, by rw [hsame, hput], fun _ => ⟨rfl, rfl⟩⟩
  | some y =>
    obtain ⟨slot, order, h, -⟩ := removePending_step s c p
    exact ⟨slot, order, h, by simp⟩

theorem settleAccount_spec (x : Session) (o : Option JournalOutcome) (s : State) :
    ∃ accounts, settleAccount x o s = { s with ret := { s.ret with accounts := accounts } } := by
  unfold settleAccount
  split <;> exact ⟨_, rfl⟩

theorem settleJournal_spec (c : ChamberNo) (x : Session) (o : Option JournalOutcome) (s : State) :
    ∃ journal seq outbox, settleJournal c x o s = { s with
      ret := { s.ret with journal := journal, nextSeq := seq }
      main := { s.main with host := { s.main.host with outbox := outbox } } } := by
  unfold settleJournal
  split
  · unfold appendRecord
    dsimp only
    split <;> exact ⟨_, _, _, rfl⟩
  · split <;> exact ⟨_, _, _, rfl⟩

theorem unseated_spec (c : ChamberNo) (x : Session) (s : State) : ∃ accounts journal seq slot order outbox,
    unseated c x s = { s with
      ret := { s.ret with sessions := put s.ret.sessions c none, accounts := accounts, journal := journal, nextSeq := seq }
      main := { s.main with
        slots := put s.main.slots c slot, posting := order, host := { s.main.host with outbox := outbox } } } ∧
    ((s.slot c).pending = none → slot = s.slot c ∧ order = s.main.posting) := by
  unfold unseated
  dsimp only
  split
  · obtain ⟨slot, order, hslot, hempty⟩ := removePending_spec isUnlock c (s.setSession c none)
    rw [hslot]
    obtain ⟨accounts, haccount⟩ := settleAccount_spec x (some .unconfirmed)
      { s.setSession c none with main := { (s.setSession c none).main with
          slots := put (s.setSession c none).main.slots c slot, posting := order } }
    rw [haccount]
    obtain ⟨journal, seq, outbox, hjournal⟩ := settleJournal_spec c x (some .unconfirmed) _
    exact ⟨accounts, journal, seq, slot, order, outbox, hjournal, hempty⟩
  · obtain ⟨accounts, haccount⟩ := settleAccount_spec x (some .unconfirmed) (s.setSession c none)
    rw [haccount]
    obtain ⟨journal, seq, outbox, hjournal⟩ := settleJournal_spec c x (some .unconfirmed) _
    refine ⟨accounts, journal, seq, s.slot c, s.main.posting, outbox, hjournal.trans ?_, fun _ => ⟨rfl, rfl⟩⟩
    simp only [State.slot, put_look]
    rfl

/-- `t` is `s` with the session of a dark chamber closed UNCONFIRMED: the chamber counts its deposit step, and the
accounts, the journal, the round list and the chamber's slot may move. -/
def ClosedOut (c : ChamberNo) (s t : State) : Prop :=
  ∃ accounts journal seq slot order round flags outbox,
    t = { s with
      ret := { s.ret with
        chambers := put s.ret.chambers c ((s.chamber c).counted (s.session c).isSome)
        sessions := put s.ret.sessions c none
        accounts := accounts, journal := journal, nextSeq := seq, round := round }
      main := { s.main with
        slots := put s.main.slots c slot, posting := order, candidates := flags
        host := { s.main.host with outbox := outbox } } } ∧
    ((s.slot c).pending = none → slot = s.slot c ∧ order = s.main.posting)

theorem counted_of_not {ch : Chamber} {b : Bool} (h : b = false ∨ ch.config = none) : ch.counted b = ch := by
  have hno : ¬ (b = true ∧ ch.config.isSome = true) := by rcases h with h | h <;> simp [h]
  rw [Chamber.counted, if_neg hno]

theorem counted_of_open {ch : Chamber} (h : ch.config ≠ none) :
    ch.counted true = { ch with estimate := stepped ch.estimate } := by
  simp [Chamber.counted, Option.isSome_iff_ne_none, h]

theorem closedOut_closeSession {c : ChamberNo} {s : State} (h : Dark c s) :
    ClosedOut c s (closeSession c (some .unconfirmed) false s) := by
  cases hx : s.session c with
  | none =>
    have hsession : put s.ret.sessions c none = s.ret.sessions := by
      rw [← hx]; exact put_look ..
    have hchamber : put s.ret.chambers c (s.chamber c) = s.ret.chambers := put_look ..
    have hslot : put s.main.slots c (s.slot c) = s.main.slots := put_look ..
    refine ⟨s.ret.accounts, s.ret.journal, s.ret.nextSeq, s.slot c, s.main.posting, s.ret.round, s.main.candidates,
      s.main.host.outbox, ?_, fun _ => ⟨rfl, rfl⟩⟩
    rw [closeSession_of_none hx, hx, Option.isSome_none, counted_of_not (.inl rfl), hsession, hchamber, hslot]
  | some x =>
    obtain ⟨accounts, journal, seq, slot, order, outbox, hun, hempty⟩ := unseated_spec c x s
    have hchamber : (unseated c x s).chamber c = s.chamber c := by rw [hun]; rfl
    rw [closeSession_of_some hx]
    by_cases hg : (s.chamber c).config = none
    · have hput : put s.ret.chambers c (s.chamber c) = s.ret.chambers := put_look ..
      refine ⟨accounts, journal, seq, slot, order, s.ret.round, s.main.candidates, outbox, ?_, hempty⟩
      rw [depositStep_of_unconfigured (by rwa [hchamber]), counted_of_not (.inr hg), hput, hun]
    · have hdark : Dark c (unseated c x s) := by unfold Dark State.access; rw [hchamber]; exact h
      obtain ⟨round, flags, outbox', hlist⟩ := evaluate_step_of_dark (dark_deposited hdark)
      refine ⟨accounts, journal, seq, slot, order, round, flags, outbox', ?_, hempty⟩
      rw [depositStep_of_configured (by rwa [hchamber]), hlist, hx, Option.isSome_some, counted_of_open hg, hun]
      rfl

namespace ClosedOut
variable {c : ChamberNo} {s t : State} (h : ClosedOut c s t) (o : ChamberNo)
include h

theorem chamber : t.chamber o = if o = c then (s.chamber c).counted (s.session c).isSome else s.chamber o := by
  obtain ⟨_, _, _, _, _, _, _, _, rfl, -⟩ := h
  exact look_put ..

theorem session : t.session o = if o = c then none else s.session o := by
  obtain ⟨_, _, _, _, _, _, _, _, rfl, -⟩ := h
  exact look_put ..

theorem dark (ho : Dark o s) : Dark o t := by
  unfold Dark State.access
  rw [h.chamber]
  split
  · next hoc => subst hoc; exact ho
  · exact ho

omit h in
/-- A cleared slot stays as it is, and so does the posting order. -/
theorem slots (h : ClosedOut c s t) (hslot : (s.slot c).pending = none) :
    t.main.slots = s.main.slots ∧ t.main.posting = s.main.posting := by
  obtain ⟨_, _, _, slot, order, _, _, _, rfl, hempty⟩ := h
  obtain ⟨rfl, rfl⟩ := hempty hslot
  exact ⟨put_look .., rfl⟩

end ClosedOut

/-- What no close of a session in a dark chamber touches. -/
def backdrop (s : State) : Retained × Line × Scheduler :=
  ({ s.ret with
      chambers := Vector.replicate 64 coldChamber, sessions := Vector.replicate 64 none, accounts := default
      journal := [], nextSeq := 0, round := [] }, s.main.line, s.main.sched)

theorem ClosedOut.backdrop {c : ChamberNo} {s t : State} (h : ClosedOut c s t) :
    Machine.backdrop t = Machine.backdrop s := by
  obtain ⟨_, _, _, _, _, _, _, _, rfl, -⟩ := h; rfl

/-! ## The sessions of several chambers -/

/-- The sessions of the chambers of a list close UNCONFIRMED, one after the other. -/
def closeAll (l : List ChamberNo) (s : State) : State := eachOf l (fun c s => closeSession c (some .unconfirmed) false s) s

section
variable {l : List ChamberNo} {s : State} (hl : ∀ c ∈ l, Dark c s)

theorem closeAll_next {c : ChamberNo} (hl : ∀ d ∈ c :: l, Dark d s) :
    ∀ d ∈ l, Dark d (closeSession c (some .unconfirmed) false s) := fun d hd =>
  (closedOut_closeSession (hl c List.mem_cons_self)).dark d (hl d (List.mem_cons_of_mem c hd))

include hl

/-- What each close of a session keeps, all of them keep. -/
theorem closeAll_keeps {β : Type} (g : State → β) (hg : ∀ c s, Dark c s → g (closeSession c (some .unconfirmed) false s) = g s) :
    g (closeAll l s) = g s :=
  (eachOf_keeps_of (P := fun l s => ∀ c ∈ l, Dark c s) (fun _ _ _ h => closeAll_next h)
    (fun c _ s h => hg c s (h c List.mem_cons_self)) hl).1

theorem backdrop_closeAll : backdrop (closeAll l s) = backdrop s :=
  closeAll_keeps hl backdrop fun _ _ h => (closedOut_closeSession h).backdrop

/-- A record, or the place of an open session, for each (R85, R102). -/
theorem room_closeAll : (closeAll l s).ret.journal.length + (closeAll l s).openSessions =
    s.ret.journal.length + s.openSessions := by
  refine closeAll_keeps hl (fun s => s.ret.journal.length + s.openSessions) fun c s _ => ?_
  cases hx : s.session c with
  | none => rw [closeSession_of_none hx]
  | some x =>
    have hledger := ledger_closeSession s c hx (some .unconfirmed) false
    have hpos := openSessions_pos s c hx
    have hlen := congrArg (fun k : Ledger => k.sequences.length) hledger
    have hses := congrArg Ledger.sessions hledger
    simp only [ledger, Ledger.closed, Ledger.recorded, Option.isSome_some, if_true, List.length_append, List.length_map,
      List.length_singleton] at hlen hses
    omega

theorem slots_closeAll (hempty : ∀ c ∈ l, (s.slot c).pending = none) :
    (closeAll l s).main.slots = s.main.slots ∧ (closeAll l s).main.posting = s.main.posting := by
  have hkept := (eachOf_keeps_of (P := fun l s => ∀ c ∈ l, Dark c s ∧ (s.slot c).pending = none)
    (f := fun c s => closeSession c (some .unconfirmed) false s)
    (g := fun s : State => (s.main.slots, s.main.posting)) (fun c l s h d hd => ?_) (fun c l s h => ?_)
    (fun c hc => ⟨hl c hc, hempty c hc⟩)).1
  · exact ⟨congrArg Prod.fst hkept, congrArg Prod.snd hkept⟩
  · obtain ⟨hdark, hslot⟩ := h c List.mem_cons_self
    have hout := closedOut_closeSession hdark
    obtain ⟨hdark', hslot'⟩ := h d (List.mem_cons_of_mem c hd)
    refine ⟨hout.dark d hdark', ?_⟩
    rw [State.slot, (hout.slots hslot).1]
    exact hslot'
  · obtain ⟨hdark, hslot⟩ := h c List.mem_cons_self
    obtain ⟨hs, ho⟩ := (closedOut_closeSession hdark).slots hslot
    exact Prod.ext hs ho

theorem desk_closeAll_of_not_mem {o : ChamberNo} (ho : o ∉ l) :
    (closeAll l s).chamber o = s.chamber o ∧ (closeAll l s).session o = s.session o := by
  have hkept := (eachOf_keeps_of (P := fun l s => (∀ c ∈ l, Dark c s) ∧ o ∉ l)
    (f := fun c s => closeSession c (some .unconfirmed) false s)
    (g := fun s : State => (s.chamber o, s.session o)) (fun c l s h => ?_) (fun c l s h => ?_) ⟨hl, ho⟩).1
  · exact ⟨congrArg Prod.fst hkept, congrArg Prod.snd hkept⟩
  · exact ⟨closeAll_next h.1, fun hm => h.2 (List.mem_cons_of_mem c hm)⟩
  · have hout := closedOut_closeSession (h.1 c List.mem_cons_self)
    have hoc : o ≠ c := fun hoc => h.2 (hoc ▸ List.mem_cons_self)
    exact Prod.ext ((hout.chamber o).trans (if_neg hoc)) ((hout.session o).trans (if_neg hoc))

theorem desk_closeAll_of_mem (hnodup : l.Nodup) {o : ChamberNo} (ho : o ∈ l) :
    (closeAll l s).chamber o = (s.chamber o).counted (s.session o).isSome ∧ (closeAll l s).session o = none := by
  have hview := eachOf_changes_of (P := fun l s => ∀ c ∈ l, Dark c s) (o := o)
    (f := fun c s => closeSession c (some .unconfirmed) false s)
    (g := fun s : State => ((s.chamber o, s.session o) : Chamber × Option Session))
    (G := fun (ch, x) => (ch.counted x.isSome, none))
    (fun _ _ _ h => closeAll_next h) (fun c l s hco h => ?_) (fun l s h => ?_) hnodup ho hl
  · exact ⟨congrArg Prod.fst hview, congrArg Prod.snd hview⟩
  · have hout := closedOut_closeSession (h c List.mem_cons_self)
    exact Prod.ext ((hout.chamber o).trans (if_neg (Ne.symm hco))) ((hout.session o).trans (if_neg (Ne.symm hco)))
  · have hout := closedOut_closeSession (h o List.mem_cons_self)
    exact Prod.ext ((hout.chamber o).trans (if_pos rfl)) ((hout.session o).trans (if_pos rfl))

end

/-! ## Their round entries -/

section
variable {s : State} (h : (sheet s).Tidy) {c o : ChamberNo} (hd : Dark c s) {e : Entry} (he : s.roundEntry o = some e)
  (hw : e.state ≠ .waiting)
include h hd he hw

/-- An entry that is not WAITING stands through the evaluation of a dark chamber. -/
theorem roundEntry_evaluate_of_dark : (evaluate c s).roundEntry o = some e := by
  cases hg : (s.chamber c).config with
  | none => rwa [evaluate_of_unconfigured hg]
  | some g =>
    have hoff : s.access c = .offline := hd.resolve_left (by simp [hg])
    by_cases hoc : o = c
    · subst hoc
      rw [roundEntry_evaluate_same h hg he]
      simp [hw]
    · have hcannot : ∀ g, accessAt g (s.fill c) (s.access c) ≠ .full := fun g => by rw [hoff]; simp [accessAt]
      exact (roundEntry_evaluate_other h hoc (candidate_of_listed h he) (.inr (.inr hcannot))).1.trans he

theorem roundEntry_closeSession_of_dark : (closeSession c (some .unconfirmed) false s).roundEntry o = some e := by
  cases hx : s.session c with
  | none => rwa [closeSession_of_none hx]
  | some x =>
    obtain ⟨_, _, _, _, _, _, hun, -⟩ := unseated_spec c x s
    have hsheet : sheet (unseated c x s) = sheet s := by rw [hun]; rfl
    have hchamber : (unseated c x s).chamber c = s.chamber c := by rw [hun]; rfl
    have hdark : Dark c (unseated c x s) := by unfold Dark State.access; rw [hchamber]; exact hd
    have hentry := (roundEntry_of_sheet hsheet o).trans he
    rw [closeSession_of_some hx]
    by_cases hg : (s.chamber c).config = none
    · rwa [depositStep_of_unconfigured (by rwa [hchamber])]
    · have hdeposited : sheet (deposited c (unseated c x s)) = sheet (unseated c x s) := by simp [deposited]
      rw [depositStep_of_configured (by rwa [hchamber])]
      exact roundEntry_evaluate_of_dark (by rwa [hdeposited, hsheet]) (dark_deposited hdark)
        ((roundEntry_of_sheet hdeposited o).trans hentry) hw

end

/-- An entry that is not WAITING stands through the closes (R35, R113). -/
theorem roundEntry_closeAll {s : State} (h : (sheet s).Tidy) {l : List ChamberNo} (hl : ∀ c ∈ l, Dark c s) {o : ChamberNo}
    {e : Entry} (he : s.roundEntry o = some e) (hw : e.state ≠ .waiting) : (closeAll l s).roundEntry o = some e := by
  obtain ⟨-, -, -, hentry⟩ := eachOf_keeps_of (f := fun c s => closeSession c (some .unconfirmed) false s) (g := fun _ => ())
    (P := fun l s => (sheet s).Tidy ∧ (∀ c ∈ l, Dark c s) ∧ s.roundEntry o = some e)
    (fun c l s ⟨ht, hd, hs⟩ => ⟨tidy_closeSession ht c _ _, closeAll_next hd,
      roundEntry_closeSession_of_dark ht (hd c List.mem_cons_self) hs hw⟩) (fun _ _ _ _ => rfl) ⟨h, hl, he⟩
  exact hentry

theorem tidy_closeAll {s : State} (h : (sheet s).Tidy) (l : List ChamberNo) : (sheet (closeAll l s)).Tidy :=
  tidy_eachOf (fun c _ h => tidy_closeSession h c _ _) _ h

/-! ## Chambers OFFLINE, slots and measurements cleared -/

/-- What becoming OFFLINE leaves of the scheduler: no measurement appears, nothing joins the sweep-owed set, and the chamber
is not in it where its access state changed (R47, R52). -/
structure Dimmed (c : ChamberNo) (changed : Bool) (d d' : Scheduler) : Prop where
  inflight : ∀ st, look d.inflight st = none → look d'.inflight st = none
  owed : ∀ o, look d.owed o = false → look d'.owed o = false
  dropped : changed = true → look d'.owed c = false

theorem setOffline_spec (c : ChamberNo) (s : State) : ∃ sched outbox,
    setAccess c .offline s = { s with
      ret := { s.ret with chambers := put s.ret.chambers c { s.chamber c with access := .offline } }
      main := { s.main with sched := sched, host := { s.main.host with outbox := outbox } } } ∧
    Dimmed c (s.access c ≠ .offline) s.main.sched sched := by
  by_cases hoff : s.access c = .offline
  · have hput : put s.ret.chambers c { s.chamber c with access := .offline } = s.ret.chambers := by
      rw [← hoff]; exact put_look ..
    refine ⟨s.main.sched, s.main.host.outbox, ?_, fun _ => id, fun _ => id, fun hc => by simp [hoff] at hc⟩
    rw [hput]
    exact if_pos hoff
  · refine ⟨_, _, if_neg hoff, fun st hst => ?_, fun o ho => ?_, fun _ => look_put_same ..⟩
    · exact (look_mapAll ..).trans (congrArg _ hst)
    · refine (look_put ..).trans ?_
      split
      · rfl
      · exact ho

/-- A cleared slot (R12). -/
def clearedSlot : CommandSlot := { pending := none, sending := none }

theorem clearSlot_spec (c : ChamberNo) (s : State) : ∃ turn, (turn = s.main.line.turn ∨ turn = none) ∧
    clearSlot c s = { s with main := { s.main with
      slots := put s.main.slots c clearedSlot, posting := s.main.posting.filter (· ≠ c)
      line := { s.main.line with turn := turn } } } := by
  unfold clearSlot
  rcases abandonTurn_cases ((s.setSlot c clearedSlot).setPosting (s.main.posting.filter (· ≠ c))) (servesSlot c) with h | h
  · exact ⟨_, .inl rfl, h⟩
  · exact ⟨_, .inr rfl, h⟩

theorem clearInflight_spec (st : StationNo) (s : State) : ∃ turn, (turn = s.main.line.turn ∨ turn = none) ∧
    clearInflight st s = { s with main := { s.main with
      sched := { s.main.sched with inflight := put s.main.sched.inflight st none }
      line := { s.main.line with turn := turn } } } := by
  unfold clearInflight
  rcases abandonTurn_cases (s.setInflight st none) (servesMeasure st) with h | h
  · exact ⟨_, .inl rfl, h⟩
  · exact ⟨_, .inr rfl, h⟩

/-- A chamber of a lost station goes OFFLINE and its slot is cleared (R142, step 3). -/
def goDark (c : ChamberNo) (s : State) : State := clearSlot c (setAccess c .offline s)

theorem goDark_spec (c : ChamberNo) (s : State) : ∃ sched turn outbox, goDark c s = { s with
      ret := { s.ret with chambers := put s.ret.chambers c { s.chamber c with access := .offline } }
      main := { s.main with
        slots := put s.main.slots c clearedSlot, posting := s.main.posting.filter (· ≠ c), sched := sched
        line := { s.main.line with turn := turn }, host := { s.main.host with outbox := outbox } } } ∧
    Dimmed c (s.access c ≠ .offline) s.main.sched sched := by
  obtain ⟨sched, outbox, hset, hdim⟩ := setOffline_spec c s
  obtain ⟨turn, -, hclear⟩ := clearSlot_spec c (setAccess c .offline s)
  refine ⟨sched, turn, outbox, hclear.trans ?_, hdim⟩
  rw [hset]

section
variable (c o : ChamberNo) (s : State)

theorem chamber_goDark : (goDark c s).chamber o = if o = c then { s.chamber c with access := .offline } else s.chamber o := by
  obtain ⟨_, _, _, h, -⟩ := goDark_spec c s
  rw [h]; exact look_put ..

theorem slot_goDark : (goDark c s).slot o = if o = c then clearedSlot else s.slot o := by
  obtain ⟨_, _, _, h, -⟩ := goDark_spec c s
  rw [h]; exact look_put ..

end

section
variable (l : List ChamberNo) (s : State)

/-- What the loss of chambers leaves of the retained domain and the line. -/
theorem ret_line_goDark : ∃ chambers turn,
    (eachOf l goDark s).ret = { s.ret with chambers := chambers } ∧
    (eachOf l goDark s).main.line = { s.main.line with turn := turn } := by
  have hview := eachOf_keeps (f := goDark) (l := l)
    (g := fun s => (({ s.ret with chambers := Vector.replicate 64 coldChamber } : Retained),
      ({ s.main.line with turn := none } : Line)))
    (fun c _ s => by obtain ⟨_, _, _, h, -⟩ := goDark_spec c s; rw [h]) s
  refine ⟨(eachOf l goDark s).ret.chambers, (eachOf l goDark s).main.line.turn, ?_, ?_⟩
  · exact congrArg (fun p : Retained × Line => { p.1 with chambers := (eachOf l goDark s).ret.chambers }) hview
  · exact congrArg (fun p : Retained × Line => { p.2 with turn := (eachOf l goDark s).main.line.turn }) hview

theorem inflight_goDark {st : StationNo} (h : look s.main.sched.inflight st = none) :
    look (eachOf l goDark s).main.sched.inflight st = none := by
  refine (eachOf_keeps_of (f := goDark) (g := fun _ => ()) (P := fun _ s => look s.main.sched.inflight st = none)
    (fun c _ s h => ?_) (fun _ _ _ _ => rfl) (l := l) h).2
  obtain ⟨_, _, _, hdark, hdim⟩ := goDark_spec c s
  rw [hdark]
  exact hdim.inflight st h

theorem sheet_goDark : sheet (eachOf l goDark s) = sheet s :=
  sheet_eachOf _ _ (fun c s => by obtain ⟨_, _, _, h, -⟩ := goDark_spec c s; rw [h]; rfl) _

variable {l} in
theorem berth_goDark_of_mem (hl : l.Nodup) {o : ChamberNo} (ho : o ∈ l) :
    (eachOf l goDark s).chamber o = { s.chamber o with access := .offline } ∧ (eachOf l goDark s).slot o = clearedSlot := by
  have hview := eachOf_changes (f := goDark) (l := l) (o := o)
    (g := fun s => ((s.chamber o, s.slot o) : Chamber × CommandSlot))
    (G := fun (ch, _) => ({ ch with access := .offline }, clearedSlot))
    (fun c _ hco s => by simp only [chamber_goDark, slot_goDark, Ne.symm hco, if_false])
    (fun s => by simp only [chamber_goDark, slot_goDark, if_true]) hl ho s
  exact ⟨congrArg Prod.fst hview, congrArg Prod.snd hview⟩

end

end Sys2Proof.Machine
end

section
/-! PROOFS. The loss of a node: its visit's chambers LEFT, and everything else that goes with it (R132, R141, R142). -/

namespace Sys2Proof.Machine

/-! ## What a visit's end moves -/

/-- A visit whose chambers are in no access state to take back moves the visit table, the summaries, the round list, the
candidate flags and the outbox alone, and the free choices taken. -/
def VisitStep (s t : State) : Prop :=
  ∃ visits summaries round flags outbox choices, t = { s with
    freeCount := choices
    ret := { s.ret with visits := visits, summaries := summaries, round := round }
    main := { s.main with candidates := flags, host := { s.main.host with outbox := outbox } } }

namespace VisitStep

theorem refl (s : State) : VisitStep s s := ⟨_, _, _, _, _, _, rfl⟩

theorem trans {s t u : State} (h : VisitStep s t) (k : VisitStep t u) : VisitStep s u := by
  obtain ⟨_, _, _, _, _, _, rfl⟩ := h
  obtain ⟨_, _, _, _, _, _, rfl⟩ := k
  exact ⟨_, _, _, _, _, _, rfl⟩

theorem eachOf {α : Type} {f : α → State → State} (hf : ∀ x s, VisitStep s (f x s)) (l : List α) (s : State) :
    VisitStep s (Machine.eachOf l f s) := by
  induction l generalizing s with
  | nil => exact refl s
  | cons x l ih => exact (hf x s).trans (ih (f x s))

end VisitStep

theorem ListStep.visitStep {s t : State} (h : ListStep s t) : VisitStep s t := by
  obtain ⟨_, _, _, rfl⟩ := h
  exact ⟨_, _, _, _, _, _, rfl⟩

theorem setPhaseAt_visitStep (p : Fin 4) (c : ChamberNo) (ph : Phase) (s : State) : VisitStep s (setPhaseAt p c ph s) := by
  unfold setPhaseAt
  split
  · exact .refl s
  · exact ⟨_, _, _, _, _, _, rfl⟩

theorem visitRecorded_visitStep (p : Fin 4) (v : Visit) (o : VisitOutcome) (s : State) :
    VisitStep s (visitRecorded p v o s) := ⟨_, _, _, _, _, _, rfl⟩

/-! ## Chambers LEFT -/

/-- An unfinished chamber of a visit takes phase LEFT, its entry WAITING (R132). -/
def leaveVisit (p : Fin 4) (i : Involved) (s : State) : State :=
  if i.phase.final then s else entryWaits i.chamber false (setPhaseAt p i.chamber .left s)

/-- The visit after a chamber of it has left. -/
def Visit.without (i : Involved) (v : Visit) : Visit := if i.phase.final then v else v.withPhase i.chamber .left

theorem visitLeft_of_none {s : State} {st : StationNo} (h : s.visitAt st = none) : visitLeft st s = s := by
  unfold visitLeft; rw [h]

theorem visitLeft_of_some {s : State} {st : StationNo} {p : Fin 4} {v : Visit} (hp : s.visitAt st = some p)
    (hv : look s.ret.visits p = some v) :
    visitLeft st s = closeVisit p .complete (eachOf v.involved (leaveVisit p) s) := by
  unfold visitLeft; rw [hp]; dsimp only; rw [hv]; rfl

section
variable (p : Fin 4) (i : Involved) (s : State)

theorem leaveVisit_visitStep : VisitStep s (leaveVisit p i s) := by
  unfold leaveVisit
  split
  · exact .refl s
  · exact (setPhaseAt_visitStep ..).trans (entryWaits_step ..).visitStep

theorem visits_leaveVisit {s : State} {v : Visit} (hv : look s.ret.visits p = some v) (i : Involved) :
    (leaveVisit p i s).ret.visits = put s.ret.visits p (some (v.without i)) := by
  unfold leaveVisit Visit.without
  split
  · rw [← hv]; exact (put_look ..).symm
  · rw [(entryWaits_step _ i.chamber false).ret]; exact visits_setPhaseAt hv ..

/-- An entry WAITING again. -/
def Entry.back (e : Entry) : Entry := { e with state := .waiting }

theorem roundEntry_leaveVisit (o : ChamberNo) : (leaveVisit p i s).roundEntry o =
    if o = i.chamber ∧ i.phase.final = false then (s.roundEntry o).map Entry.back else s.roundEntry o := by
  unfold leaveVisit
  cases hf : i.phase.final with
  | true => simp
  | false =>
    have hsheet : sheet (setPhaseAt p i.chamber .left s) = sheet s := by simp
    rw [if_neg Bool.false_ne_true, entryWaits_false, roundEntry_of_sheet hsheet, roundEntry_of_sheet hsheet]
    by_cases ho : o = i.chamber
    · subst ho
      rw [if_pos rfl, if_pos ⟨rfl, rfl⟩]
      rfl
    · simp [ho]

end

/-- Some chamber of the list, with this number, is unfinished. -/
def unfinishedIn (l : List Involved) (c : ChamberNo) : Bool := l.any fun i => !i.phase.final && i.chamber = c

theorem unfinishedIn_cons (i : Involved) (l : List Involved) (c : ChamberNo) :
    unfinishedIn (i :: l) c = ((!i.phase.final && decide (i.chamber = c)) || unfinishedIn l c) := rfl

/-- The entries of the unfinished chambers are WAITING with their skip counts unchanged (R114, R132). -/
theorem roundEntry_eachOf_leaveVisit (p : Fin 4) (l : List Involved) (s : State) (o : ChamberNo) :
    (eachOf l (leaveVisit p) s).roundEntry o =
      if unfinishedIn l o = true then (s.roundEntry o).map Entry.back else s.roundEntry o := by
  induction l generalizing s with
  | nil => rfl
  | cons i l ih =>
    rw [eachOf_cons, ih, roundEntry_leaveVisit, unfinishedIn_cons]
    by_cases hi : o = i.chamber ∧ i.phase.final = false
    · have hyes : (!i.phase.final && decide (i.chamber = o)) = true := by
        rw [hi.2, ← hi.1, decide_eq_true rfl]; rfl
      have hback : Entry.back ∘ Entry.back = Entry.back := rfl
      rw [if_pos hi, hyes, Bool.true_or, if_pos rfl, Option.map_map, hback, ite_self]
    · have hno : (!i.phase.final && decide (i.chamber = o)) = false := by
        refine Bool.eq_false_iff.2 fun h => hi ?_
        simp only [Bool.and_eq_true, Bool.not_eq_true', decide_eq_true_eq] at h
        exact ⟨h.2.symm, h.1⟩
      rw [if_neg hi, hno, Bool.false_or]

theorem visits_eachOf_leaveVisit (p : Fin 4) (l : List Involved) {s : State} {v : Visit} (hv : look s.ret.visits p = some v) :
    (eachOf l (leaveVisit p) s).ret.visits = put s.ret.visits p (some (l.foldl (fun v i => v.without i) v)) := by
  induction l generalizing s v with
  | nil => rw [List.foldl_nil, ← hv]; exact (put_look ..).symm
  | cons i l ih =>
    have hvisits := visits_leaveVisit p hv i
    rw [eachOf_cons, ih (by rw [hvisits]; exact look_put_same ..), hvisits, put_put]
    rfl

/-- The phases once the unfinished chambers of a list have left the visit. -/
theorem involved_foldl_without (l : List Involved) (v : Visit) : (l.foldl (fun v i => v.without i) v).involved =
    v.involved.map fun i => if unfinishedIn l i.chamber = true then { i with phase := .left } else i := by
  induction l generalizing v with
  | nil => simp [unfinishedIn]
  | cons i l ih =>
    rw [List.foldl_cons, ih, Visit.without]
    cases hf : i.phase.final with
    | true => simp [unfinishedIn_cons, hf]
    | false =>
      simp only [Visit.withPhase, List.map_map, unfinishedIn_cons, hf, if_false, Bool.false_eq_true]
      refine List.map_congr_left fun j _ => ?_
      by_cases hj : j.chamber = i.chamber
      · simp [hj]
      · simp [hj, Ne.symm hj]

theorem foldl_without_station (l : List Involved) (v : Visit) :
    (l.foldl (fun v i => v.without i) v).station = v.station ∧ (l.foldl (fun v i => v.without i) v).crew = v.crew := by
  induction l generalizing v with
  | nil => exact ⟨rfl, rfl⟩
  | cons i l ih =>
    have hone : (v.without i).station = v.station ∧ (v.without i).crew = v.crew := by
      unfold Visit.without; split <;> exact ⟨rfl, rfl⟩
    exact ⟨(ih _).1.trans hone.1, (ih _).2.trans hone.2⟩

theorem phase_final_of_unfinishedIn {l : List Involved} {i : Involved} (hi : i ∈ l) :
    (if unfinishedIn l i.chamber = true then { i with phase := .left } else i).phase.final = true := by
  split
  · rfl
  · next h =>
    by_contra hf
    exact h (List.any_eq_true.2 ⟨i, hi, by simp [Bool.eq_false_iff.2 hf]⟩)

/-- The phases of a visit whose chambers are distinct, once its unfinished ones have left. -/
theorem unfinishedIn_of_nodup {l : List Involved} (hl : (l.map (·.chamber)).Nodup) {i : Involved} (hi : i ∈ l) :
    unfinishedIn l i.chamber = !i.phase.final := by
  rw [Bool.eq_iff_iff]
  constructor
  · intro h
    obtain ⟨j, hj, hjf⟩ := List.any_eq_true.1 h
    simp only [Bool.and_eq_true, decide_eq_true_eq] at hjf
    exact List.inj_on_of_nodup_map hl hj hi hjf.2 ▸ hjf.1
  · exact fun h => List.any_eq_true.2 ⟨i, hi, by simp [h]⟩

/-- The visit whose unfinished chambers have all left. -/
def Visit.abandoned (v : Visit) : Visit := v.involved.foldl (fun v i => v.without i) v

section
variable (v : Visit)

theorem final_of_abandoned : ∀ i ∈ v.abandoned.involved, i.phase.final = true := by
  intro i hi
  rw [Visit.abandoned, involved_foldl_without] at hi
  obtain ⟨j, hj, rfl⟩ := List.mem_map.1 hi
  exact phase_final_of_unfinishedIn hj

theorem ended_left_abandoned (h : (v.involved.map (·.chamber)).Nodup) :
    v.abandoned.ended .left = (v.involved.filter fun i => i.phase = .left || !i.phase.final).length := by
  rw [Visit.ended, Visit.abandoned, involved_foldl_without, List.countP_map, List.countP_eq_length_filter]
  congr 1
  refine List.filter_congr fun i hi => ?_
  simp only [Function.comp, unfinishedIn_of_nodup h hi]
  cases hph : i.phase <;> simp [Phase.final, hph]

theorem unfinished_abandoned : v.abandoned.involved.countP (fun i => !i.phase.final) = 0 := by
  rw [List.countP_eq_zero]
  exact fun i hi => by simp [final_of_abandoned v i hi]

end

/-- The loss of a visit's chambers, with its close (R132). -/
theorem visitLeft_eq {s : State} {st : StationNo} {p : Fin 4} {v : Visit} (hp : s.visitAt st = some p)
    (hv : look s.ret.visits p = some v) :
    visitLeft st s = visitRecorded p v.abandoned .complete (eachOf v.involved (leaveVisit p) s) := by
  have hvisits := visits_eachOf_leaveVisit p v.involved hv
  have hnew : look (eachOf v.involved (leaveVisit p) s).ret.visits p = some v.abandoned := by
    rw [hvisits]; exact look_put_same ..
  rw [visitLeft_of_some hp hv, closeVisit_of_final hnew (final_of_abandoned v)]

theorem visitLeft_visitStep (st : StationNo) (s : State) : VisitStep s (visitLeft st s) := by
  cases hp : s.visitAt st with
  | none => rw [visitLeft_of_none hp]; exact .refl s
  | some p =>
    cases hv : look s.ret.visits p with
    | none =>
      have hsame : visitLeft st s = s := by unfold visitLeft; rw [hp]; dsimp only; rw [hv]
      rw [hsame]; exact .refl s
    | some v =>
      rw [visitLeft_eq hp hv]
      exact (VisitStep.eachOf (leaveVisit_visitStep p) _ s).trans (visitRecorded_visitStep ..)

/-- A station with one open visit at most has none once its visit has lost its chambers. -/
theorem visitAt_visitLeft {s : State} {st : StationNo} (hone : ∀ (p q : Fin 4) (v w : Visit),
    look s.ret.visits p = some v → look s.ret.visits q = some w → v.station = w.station → p = q) :
    (visitLeft st s).visitAt st = none := by
  cases hp : s.visitAt st with
  | none => rw [visitLeft_of_none hp, hp]
  | some p =>
    obtain ⟨v, hv, hst⟩ := Option.map_eq_some_iff.1 (of_decide_eq_true (lowest_eq_some hp).1)
    rw [visitLeft_eq hp hv]
    refine lowest_eq_none.2 fun q => decide_eq_false fun hq => ?_
    have hvisits := visits_eachOf_leaveVisit p v.involved hv
    obtain ⟨w, hw, hwst⟩ := Option.map_eq_some_iff.1 hq
    have hw : look (put (eachOf v.involved (leaveVisit p) s).ret.visits p none) q = some w := hw
    rw [hvisits, put_put, look_put] at hw
    split at hw
    · cases hw
    · next hqp => exact hqp (hone q p w v hw hv (hwst.trans hst.symm))

/-- What the loss leaves of a visit (R132). -/
theorem visitGone_visitLeft {s : State} {st : StationNo} {v : Visit} (hv : (s.visitAt st).bind (look s.ret.visits) = some v) :
    (∃ m, look (visitLeft st s).ret.summaries v.station = some m ∧ m.crew = v.crew ∧ m.outcome = .complete ∧
      ((v.involved.map (·.chamber)).Nodup → m.unfinished = 0 ∧
        m.left = (v.involved.filter fun i => i.phase = .left || !i.phase.final).length)) ∧
    ∀ i ∈ v.involved, i.phase.final = false → ∀ e, s.roundEntry i.chamber = some e →
      (visitLeft st s).roundEntry i.chamber = some e.back := by
  obtain ⟨p, hp, hv⟩ := Option.bind_eq_some_iff.1 hv
  rw [visitLeft_eq hp hv]
  obtain ⟨hstation, hcrew⟩ := foldl_without_station v.involved v
  refine ⟨⟨summaryOf v.abandoned .complete (eachOf v.involved (leaveVisit p) s).now, ?_, hcrew, rfl, fun hnodup =>
    ⟨unfinished_abandoned v, ended_left_abandoned v hnodup⟩⟩, fun i hi hf e he => ?_⟩
  · rw [← hstation]; exact look_put_same ..
  · have hentry := roundEntry_eachOf_leaveVisit p v.involved s i.chamber
    have hin : unfinishedIn v.involved i.chamber = true := List.any_eq_true.2 ⟨i, hi, by simp [hf]⟩
    rw [if_pos hin, he] at hentry
    exact hentry

/-! ## A station that goes off line (R142) -/

section
variable (st : StationNo) (s : State)

/-- The station's measurement cleared and its chambers OFFLINE with cleared slots (R142, steps 2 and 3). -/
def dimmed : State := eachOf (s.chambersOf st) goDark (clearInflight st s)

/-- Its sessions closed too (R142, step 4). -/
def emptiedOut : State := closeAll (s.chambersOf st) (dimmed st s)

theorem clearInflight_ret : (clearInflight st s).ret = s.ret := by
  obtain ⟨_, -, h⟩ := clearInflight_spec st s
  rw [h]

theorem stationOut_eq : stationOut st s = visitLeft st (emptiedOut st s) := by
  have hcs : (clearInflight st s).chambersOf st = s.chambersOf st := by
    unfold State.chambersOf State.chamber
    rw [clearInflight_ret]
  unfold stationOut
  dsimp only
  rw [hcs]
  rfl

theorem chambersOf_nodup : (s.chambersOf st).Nodup := (List.nodup_finRange 64).filter _

variable {st s} in
theorem berth_dimmed {o : ChamberNo} (ho : o ∈ s.chambersOf st) :
    (dimmed st s).chamber o = { s.chamber o with access := .offline } ∧ (dimmed st s).slot o = clearedSlot := by
  have hberth := berth_goDark_of_mem (clearInflight st s) (chambersOf_nodup st s) ho
  have hchamber : (clearInflight st s).chamber o = s.chamber o := by rw [State.chamber, clearInflight_ret]; rfl
  rw [hchamber] at hberth
  exact hberth

theorem dark_dimmed : ∀ o ∈ s.chambersOf st, Dark o (dimmed st s) := fun o ho => by
  refine .inr ?_
  rw [State.access, (berth_dimmed ho).1]

theorem ret_dimmed : ∃ chambers, (dimmed st s).ret = { s.ret with chambers := chambers } := by
  obtain ⟨chambers, _, hret, -⟩ := ret_line_goDark (s.chambersOf st) (clearInflight st s)
  exact ⟨chambers, by rw [dimmed, hret, clearInflight_ret]⟩

theorem backdrop_emptiedOut : backdrop (emptiedOut st s) = backdrop (dimmed st s) := backdrop_closeAll (dark_dimmed st s)

theorem visits_emptiedOut : (emptiedOut st s).ret.visits = s.ret.visits := by
  have hback := congrArg (fun b => b.1.visits) (backdrop_emptiedOut st s)
  obtain ⟨_, hret⟩ := ret_dimmed st s
  have hvisits : (dimmed st s).ret.visits = s.ret.visits := by rw [hret]
  exact Eq.trans hback hvisits

theorem stations_stationOut : (stationOut st s).ret.stations = s.ret.stations := by
  have hback := congrArg (fun b => b.1.stations) (backdrop_emptiedOut st s)
  obtain ⟨_, hret⟩ := ret_dimmed st s
  have hstations : (dimmed st s).ret.stations = s.ret.stations := by rw [hret]
  obtain ⟨_, _, _, _, _, _, hleft⟩ := visitLeft_visitStep st (emptiedOut st s)
  rw [stationOut_eq, hleft]
  exact Eq.trans hback hstations

theorem line_stationOut : ∃ turn, (stationOut st s).main.line = { s.main.line with turn := turn } := by
  obtain ⟨turn, -, hclear⟩ := clearInflight_spec st s
  obtain ⟨_, turn', -, hline⟩ := ret_line_goDark (s.chambersOf st) (clearInflight st s)
  have hback := congrArg (fun b => b.2.1) (backdrop_emptiedOut st s)
  obtain ⟨_, _, _, _, _, _, hleft⟩ := visitLeft_visitStep st (emptiedOut st s)
  refine ⟨turn', ?_⟩
  rw [stationOut_eq, hleft]
  refine Eq.trans hback (hline.trans ?_)
  rw [hclear]

theorem inflight_stationOut : look (stationOut st s).main.sched.inflight st = none := by
  obtain ⟨turn, -, hclear⟩ := clearInflight_spec st s
  have hcleared : look (clearInflight st s).main.sched.inflight st = none := by rw [hclear]; exact look_put_same ..
  have hdimmed := inflight_goDark (s.chambersOf st) (clearInflight st s) hcleared
  have hback := congrArg (fun b => look b.2.2.inflight st) (backdrop_emptiedOut st s)
  obtain ⟨_, _, _, _, _, _, hleft⟩ := visitLeft_visitStep st (emptiedOut st s)
  rw [stationOut_eq, hleft]
  exact Eq.trans hback hdimmed

theorem desk_stationOut (o : ChamberNo) : (stationOut st s).chamber o = (emptiedOut st s).chamber o ∧
    (stationOut st s).session o = (emptiedOut st s).session o ∧ (stationOut st s).slot o = (emptiedOut st s).slot o := by
  obtain ⟨_, _, _, _, _, _, hleft⟩ := visitLeft_visitStep st (emptiedOut st s)
  rw [stationOut_eq, hleft]
  exact ⟨rfl, rfl, rfl⟩

theorem session_dimmed (o : ChamberNo) : (dimmed st s).session o = s.session o := by
  obtain ⟨_, hret⟩ := ret_dimmed st s
  rw [State.session, hret]; rfl

/-- What the loss makes of each chamber of the station (R142, steps 3 and 4). -/
theorem desk_stationOut_of_mem {o : ChamberNo} (ho : o ∈ s.chambersOf st) : (stationOut st s).chamber o =
      { s.chamber o with access := .offline }.counted (s.session o).isSome ∧
    (stationOut st s).session o = none ∧ (stationOut st s).slot o = clearedSlot := by
  obtain ⟨hchamber, hsession, hslot⟩ := desk_stationOut st s o
  obtain ⟨hclosed, hnone⟩ := desk_closeAll_of_mem (dark_dimmed st s) (chambersOf_nodup st s) ho
  obtain ⟨hdark, hclear⟩ := berth_dimmed ho
  have hslots := (slots_closeAll (dark_dimmed st s) fun c hc => by rw [(berth_dimmed hc).2]; rfl).1
  rw [hdark, session_dimmed] at hclosed
  exact ⟨hchamber.trans hclosed, hsession.trans hnone,
    hslot.trans ((congrArg (look · o) hslots).trans hclear)⟩

theorem session_stationOut_of_not_mem {o : ChamberNo} (ho : o ∉ s.chambersOf st) :
    (stationOut st s).session o = s.session o := by
  obtain ⟨-, hsession, -⟩ := desk_stationOut st s o
  obtain ⟨-, hclosed⟩ := desk_closeAll_of_not_mem (dark_dimmed st s) ho
  exact hsession.trans (hclosed.trans (session_dimmed st s o))

theorem room_stationOut : (stationOut st s).ret.journal.length + (stationOut st s).openSessions =
    s.ret.journal.length + s.openSessions := by
  obtain ⟨_, _, _, _, _, _, hleft⟩ := visitLeft_visitStep st (emptiedOut st s)
  obtain ⟨_, hret⟩ := ret_dimmed st s
  have hroom := room_closeAll (dark_dimmed st s)
  have hdimmed : (dimmed st s).ret.journal.length + (dimmed st s).openSessions = s.ret.journal.length + s.openSessions := by
    simp only [State.openSessions, hret]
  rw [stationOut_eq, hleft]
  exact hroom.trans hdimmed

/-- An entry that is not WAITING stands until the visit loses its chambers. -/
theorem roundEntry_emptiedOut {s : State} (h : (sheet s).Tidy) {o : ChamberNo} {e : Entry} (he : s.roundEntry o = some e)
    (hw : e.state ≠ .waiting) : (emptiedOut st s).roundEntry o = some e := by
  have hsheet : sheet (dimmed st s) = sheet s := by rw [dimmed, sheet_goDark]; simp
  exact roundEntry_closeAll (by rwa [hsheet]) (dark_dimmed st s) ((roundEntry_of_sheet hsheet o).trans he) hw

end

/-! ## Miss runs (R141) -/

theorem removeAddress_spec (a : AddrNo) (s : State) : ∃ attention turn, removeAddress a s = { s with
    main := { s.main with line := { s.main.line with
      table := put s.main.line.table a none, withheld := put s.main.line.withheld a true
      attention := attention, turn := turn } } } := by
  unfold removeAddress
  dsimp only
  rcases abandonTurn_cases ((withhold a (s.setEntry a none)).onLine fun l =>
    { l with attention :=
        if l.attention.won.any (fun w => w.2 = a) then { l.attention with won := none } else l.attention })
    (servesBinding a) with h | h <;> rw [h] <;> exact ⟨_, _, rfl⟩

theorem countMiss_of_absent {a : AddrNo} {s : State} (h : s.entry a = none) (b : Bool) : countMiss a b s = s := by
  unfold countMiss; rw [h]

section
variable {a : AddrNo} {s : State} {e : LineEntry} (he : s.entry a = some e)
include he

/-- The miss run of an unbound node stands in the entry (R140). -/
theorem countMiss_of_unbound (hunbound : e.station = none ∨ e.binding ≠ .none) (b : Bool) : countMiss a b s =
    let n := if b then 0 else e.missRun + 1
    if n ≥ 3 then releaseNode a e.serial (s.setEntry a (some { e with missRun := n }))
    else s.setEntry a (some { e with missRun := n }) := by
  unfold countMiss
  rw [he]
  dsimp only
  split
  · next hcounts hst =>
    rcases hunbound with h | h
    · rw [h] at hst; cases hst
    · simp [LineEntry.countsBound, h] at hcounts
  · rfl

/-- That of a bound one stands in its station's record (R140). -/
theorem countMiss_of_bound {st : StationNo} (hst : e.station = some st) (hbind : e.binding = .none) (b : Bool) :
    countMiss a b s =
    let n := if b then 0 else (s.station st).missRun + 1
    if n ≥ 3 then loseNode a st e.serial (s.onStation st fun x => { x with missRun := n })
    else s.onStation st fun x => { x with missRun := n } := by
  have hcounts : e.countsBound = true := by simp [LineEntry.countsBound, hst, hbind]
  unfold countMiss
  rw [he]
  dsimp only
  rw [hcounts, hst]

end

/-! ## The end of a DENY -/

section
variable {s : State} {c : ChamberNo} {a : AddrNo} {d : DenyCode} (hvdd : s.vdd = true)
  (ht : s.turnKind = some (.command c a)) (hs : (s.slot c).sending = some (.deny d))
include hvdd ht hs

theorem exec_denyEnd_answered : exec (.denyEnd (.answered (answerFrame a 0x11 []))) s =
    .next (settle (freeLine (countMiss a true (unsent c s)))) :=
  (whilePowered_of_vdd hvdd _).trans (congrArg Host.Outcome.next (takeCommandEnd_answered ht hs rfl endDeny))

theorem exec_denyEnd_failed : exec (.denyEnd .failed) s = .next (settle (freeLine (countMiss a false (unsent c s)))) :=
  (whilePowered_of_vdd hvdd _).trans (congrArg Host.Outcome.next (takeCommandEnd_failed ht hs rfl endDeny))

end

/-! ## Nodes lost and released (R142, R143) -/

theorem posted_postNode (a : AddrNo) (serial : Serial) (s : State) : posted (.node a) (postNode a serial s) :=
  posted_postWith ..

theorem postNode_spec (a : AddrNo) (serial : Serial) (s : State) : ∃ outbox,
    postNode a serial s = { s with main := { s.main with host := { s.main.host with outbox := outbox } } } := ⟨_, rfl⟩

/-- The release of the unbound node at an address (R143). -/
theorem releaseNode_main (a : AddrNo) (serial : Serial) (s : State) : let x := releaseNode a serial s
    x.entry a = none ∧ look x.main.line.withheld a = true ∧ posted (.node a) x ∧ x.ret = s.ret ∧
      ∀ b, b ≠ a → x.entry b = s.entry b := by
  obtain ⟨_, _, hrem⟩ := removeAddress_spec a s
  have hposted := posted_postNode a serial (removeAddress a s)
  obtain ⟨_, hpost⟩ := postNode_spec a serial (removeAddress a s)
  intro x
  refine ⟨?_, ?_, hposted, ?_, fun b hb => ?_⟩
  all_goals rw [show x = postNode a serial (removeAddress a s) from rfl, hpost, hrem]
  · exact look_put_same ..
  · exact look_put_same ..
  · exact look_put_other _ _ _ _ hb

/-- The record of a station whose node is lost (R142, step 1). -/
def Station.lost (x : Station) : Station := { x with address := none, node := .offline, missRun := 0 }

/-- A node lost: its address is taken out, its station's record written, and the station goes off line (R142). -/
theorem loseNode_spec (a : AddrNo) (st : StationNo) (serial : Serial) (s : State) : ∃ w outbox attention turn,
    loseNode a st serial s =
      { stationOut st w with main := { (stationOut st w).main with
          host := { (stationOut st w).main.host with outbox := outbox } } } ∧
    w = { s with
      ret := { s.ret with stations := put s.ret.stations st (s.station st).lost }
      main := { s.main with line := { s.main.line with
        table := put s.main.line.table a none, withheld := put s.main.line.withheld a true
        attention := attention, turn := turn } } } := by
  obtain ⟨attention, turn, hrem⟩ := removeAddress_spec a s
  refine ⟨_, _, attention, turn, rfl, ?_⟩
  rw [hrem]
  rfl

section
variable (a : AddrNo) (st : StationNo) (serial : Serial) (s : State)

theorem posted_loseNode : posted (.node a) (loseNode a st serial s) := posted_postNode ..

theorem loseNode_line : (loseNode a st serial s).entry a = none ∧
    look (loseNode a st serial s).main.line.withheld a = true ∧
    ∀ b, b ≠ a → (loseNode a st serial s).entry b = s.entry b := by
  obtain ⟨w, _, _, _, hlose, hw⟩ := loseNode_spec a st serial s
  obtain ⟨_, hline⟩ := line_stationOut st w
  have htable := congrArg Line.table hline
  have hwithheld := congrArg Line.withheld hline
  rw [hlose]
  subst hw
  exact ⟨(congrArg (look · a) htable).trans (look_put_same ..), (congrArg (look · a) hwithheld).trans (look_put_same ..),
    fun b hb => (congrArg (look · b) htable).trans (look_put_other _ _ _ _ hb)⟩

theorem loseNode_stations : (loseNode a st serial s).ret.stations = put s.ret.stations st (s.station st).lost := by
  obtain ⟨w, _, _, _, hlose, hw⟩ := loseNode_spec a st serial s
  have hstations := stations_stationOut st w
  rw [hlose]
  subst hw
  exact hstations

theorem loseNode_inflight : look (loseNode a st serial s).main.sched.inflight st = none := by
  obtain ⟨w, _, _, _, hlose, -⟩ := loseNode_spec a st serial s
  rw [hlose]
  exact inflight_stationOut st w

/-- What the loss makes of each chamber of the station (R142, steps 3 and 4). -/
theorem loseNode_desk {o : ChamberNo} (ho : o ∈ s.chambersOf st) : (loseNode a st serial s).chamber o =
      { s.chamber o with access := .offline }.counted (s.session o).isSome ∧
    (loseNode a st serial s).session o = none ∧ (loseNode a st serial s).slot o = clearedSlot := by
  obtain ⟨w, _, _, _, hlose, hw⟩ := loseNode_spec a st serial s
  have hdesk := desk_stationOut_of_mem st w (o := o) (by subst hw; exact ho)
  rw [hlose]
  subst hw
  exact hdesk

theorem loseNode_session_other {o : ChamberNo} (ho : o ∉ s.chambersOf st) :
    (loseNode a st serial s).session o = s.session o := by
  obtain ⟨w, _, _, _, hlose, hw⟩ := loseNode_spec a st serial s
  have hsession := session_stationOut_of_not_mem st w (o := o) (by subst hw; exact ho)
  rw [hlose]
  subst hw
  exact hsession

theorem loseNode_room : (loseNode a st serial s).ret.journal.length + (loseNode a st serial s).openSessions =
    s.ret.journal.length + s.openSessions := by
  obtain ⟨w, _, _, _, hlose, hw⟩ := loseNode_spec a st serial s
  have hroom := room_stationOut st w
  rw [hlose]
  subst hw
  exact hroom

variable {st s} in
theorem loseNode_visit (hone : ∀ (p q : Fin 4) (v w : Visit),
    look s.ret.visits p = some v → look s.ret.visits q = some w → v.station = w.station → p = q) :
    (loseNode a st serial s).visitAt st = none := by
  obtain ⟨w, _, _, _, hlose, hw⟩ := loseNode_spec a st serial s
  have hvisits := visits_emptiedOut st w
  have hnone := visitAt_visitLeft (s := emptiedOut st w) (st := st) (by rw [hvisits]; subst hw; exact hone)
  rw [hlose]
  exact (congrArg (State.visitAt · st) (stationOut_eq st w)).trans hnone

variable {st s} in
theorem loseNode_visitGone (h : Known s) {v : Visit} (hv : (s.visitAt st).bind (look s.ret.visits) = some v) :
    visitGone v s (loseNode a st serial s) := by
  obtain ⟨w, _, _, _, hlose, hw⟩ := loseNode_spec a st serial s
  have hvisits : (emptiedOut st w).ret.visits = s.ret.visits := (visits_emptiedOut st w).trans (by subst hw; rfl)
  have hsheet : sheet w = sheet s := by subst hw; rfl
  have hat : (emptiedOut st w).visitAt st = s.visitAt st := visitAt_of_visits hvisits st
  obtain ⟨hsummary, hentries⟩ := visitGone_visitLeft (s := emptiedOut st w) (st := st) (v := v)
    (by rw [hat, hvisits]; exact hv)
  rw [← stationOut_eq] at hsummary hentries
  rw [hlose]
  refine ⟨hsummary, fun hlaw i e hi hf he hwait => hentries i hi hf e ?_⟩
  have htidy := (roundLaw_iff.1 hlaw) h
  exact roundEntry_emptiedOut st (by rwa [hsheet]) ((roundEntry_of_sheet hsheet _).trans he) hwait

end

theorem station_of_visit {s : State} {st : StationNo} {v : Visit} (hv : (s.visitAt st).bind (look s.ret.visits) = some v) :
    v.station = st := by
  obtain ⟨p, hp, hv⟩ := Option.bind_eq_some_iff.1 hv
  exact station_of_visitAt hp hv

/-- Settles O33: the miss run is counted where the entry says, and a lost node takes its station through the stages of
R142. -/
theorem missRunsAndNodeLoss : Obligations.MissRunsAndNodeLoss := by
  intro s c a d hvdd ht hs hvisits
  rw [exec_denyEnd_answered hvdd ht hs, exec_denyEnd_failed hvdd ht hs]
  refine ⟨fun he => ?_, fun e he hunbound => ?_, fun e st he hst hbind => ?_⟩
  · have hsame (b : Bool) : countMiss a b (unsent c s) = unsent c s := countMiss_of_absent (s := unsent c s) he b
    rw [hsame, hsame]
    exact ⟨rfl, rfl⟩
  · have hcount (b : Bool) := countMiss_of_unbound (s := unsent c s) he hunbound b
    rw [hcount, hcount]
    refine ⟨rfl, fun hn => ?_, fun hn => ?_⟩
    · exact congrArg (fun x => Host.Outcome.next (settle (freeLine x))) (if_neg (Nat.not_le.2 hn))
    · refine ⟨_, congrArg (fun x => Host.Outcome.next (settle (freeLine x))) (if_pos hn), ?_⟩
      obtain ⟨hnone, hheld, hposted, hret, hother⟩ := releaseNode_main a e.serial
        ((unsent c s).setEntry a (some { e with missRun := e.missRun + 1 }))
      exact ⟨hnone, hheld, hposted, hret, fun b hb => (hother b hb).trans (look_put_other _ _ _ _ hb)⟩
  · have hcount (b : Bool) := countMiss_of_bound (s := unsent c s) he hst hbind b
    rw [hcount, hcount]
    intro x
    refine ⟨rfl, fun hn => ?_, fun hn => ?_⟩
    · exact congrArg (fun x => Host.Outcome.next (settle (freeLine x))) (if_neg (Nat.not_le.2 hn))
    · let u := (unsent c s).onStation st fun y => { y with missRun := x.missRun + 1 }
      obtain ⟨hnone, hheld, hother⟩ := loseNode_line a st e.serial u
      have hstations := loseNode_stations a st e.serial u
      have hone := hvisits (.inl hvdd)
      have hold : u.ret.stations = put s.ret.stations st { x with missRun := x.missRun + 1 } := rfl
      refine ⟨loseNode a st e.serial u, congrArg (fun x => Host.Outcome.next (settle (freeLine x))) (if_pos hn),
        hnone, hheld, posted_loseNode a st e.serial u, ?_,
        loseNode_inflight a st e.serial u, loseNode_visit a e.serial hone, fun v hv => ⟨?_, station_of_visit hv⟩,
        fun o g hg hgst => ?_, loseNode_room a st e.serial u, hother, fun o ho => ?_, fun o g hg hgst => ?_⟩
      · rw [State.station, hstations, look_put_same, State.station, hold, look_put_same]
        rfl
      · exact loseNode_visitGone (s := u) a e.serial (.inl hvdd) hv
      · have hg' : (u.chamber o).config = some g := hg
        obtain ⟨hchamber, hsession, hslot⟩ := loseNode_desk a st e.serial u (mem_chambersOf.2 ⟨g, hg, hgst⟩)
        refine ⟨?_, hsession, hslot, ?_, ?_⟩
        · rw [State.access, hchamber]; rfl
        · rw [hchamber]; rfl
        · rw [hchamber, Chamber.counted, hg', Option.isSome_some]
          simp only [and_true]
          rfl
      · rw [State.station, hstations, look_put_other _ _ _ _ ho, hold, look_put_other _ _ _ _ ho]
        rfl
      · refine loseNode_session_other a st e.serial u fun hm => ?_
        obtain ⟨g', hg', hst'⟩ := mem_chambersOf.1 hm
        have hsame : g = g' := Option.some.inj (hg.symm.trans hg')
        exact hgst (hsame ▸ hst')

end Sys2Proof.Machine
end

section
/-! PROOFS. LINE RESET (R132, R154, R170). -/

namespace Sys2Proof.Machine

/-! ## Every chamber OFFLINE, every slot and measurement cleared (R154, step 2) -/

/-- The configured chambers, by rising number. -/
def configured (s : State) : List ChamberNo := (indexes 64).filter fun c => (s.chamber c).config.isSome

theorem mem_configured {s : State} {c : ChamberNo} : c ∈ configured s ↔ (s.chamber c).config.isSome = true := by
  simp [configured, indexes]

theorem mem_indexes {n : Nat} (i : Fin n) : i ∈ indexes n := List.mem_finRange i

theorem resetChambers_eq (s : State) : resetChambers s =
    eachOf (indexes 16) clearInflight (eachOf (indexes 64) clearSlot (eachOf (configured s) (setAccess · .offline) s)) := rfl

section
variable (l : List ChamberNo) (s : State)

theorem chamber_setOffline (c o : ChamberNo) (s : State) : (setAccess c .offline s).chamber o =
    if o = c then { s.chamber c with access := .offline } else s.chamber o := by
  obtain ⟨_, _, h, -⟩ := setOffline_spec c s
  rw [h]; exact look_put ..

/-- What the chambers' going OFFLINE leaves. -/
theorem offline_rest : ∃ chambers sched outbox, eachOf l (setAccess · .offline) s = { s with
    ret := { s.ret with chambers := chambers }
    main := { s.main with sched := sched, host := { s.main.host with outbox := outbox } } } := by
  induction l generalizing s with
  | nil => exact ⟨_, _, _, rfl⟩
  | cons c l ih =>
    obtain ⟨_, _, h, -⟩ := setOffline_spec c s
    obtain ⟨chambers, sched, outbox, hrest⟩ := ih (setAccess c .offline s)
    exact ⟨chambers, sched, outbox, by rw [eachOf_cons, hrest, h]⟩

theorem chamber_offline (o : ChamberNo) : (eachOf l (setAccess · .offline) s).chamber o =
    { s.chamber o with access := if o ∈ l then .offline else s.access o } := by
  induction l generalizing s with
  | nil => rfl
  | cons c l ih =>
    rw [eachOf_cons, ih, State.access, chamber_setOffline]
    by_cases hoc : o = c
    · subst hoc; simp
    · simp [hoc]; rfl

theorem owed_offline_of_false {o : ChamberNo} (h : look s.main.sched.owed o = false) :
    look (eachOf l (setAccess · .offline) s).main.sched.owed o = false := by
  induction l generalizing s with
  | nil => exact h
  | cons c l ih =>
    obtain ⟨_, _, hset, hdim⟩ := setOffline_spec c s
    exact ih (setAccess c .offline s) (by rw [hset]; exact hdim.owed o h)

/-- A chamber whose access state changes leaves the sweep-owed set (R52). -/
theorem owed_offline {o : ChamberNo} (ho : o ∈ l) (hacc : s.access o ≠ .offline) :
    look (eachOf l (setAccess · .offline) s).main.sched.owed o = false := by
  induction l generalizing s with
  | nil => cases ho
  | cons c l ih =>
    obtain ⟨_, _, hset, hdim⟩ := setOffline_spec c s
    by_cases hoc : o = c
    · subst hoc
      exact owed_offline_of_false l (setAccess o .offline s) (by rw [hset]; exact hdim.dropped (decide_eq_true hacc))
    · refine ih (setAccess c .offline s) ((List.mem_cons.1 ho).resolve_left hoc) ?_
      rwa [State.access, chamber_setOffline, if_neg hoc]

/-- What the clearing of slots leaves: the slots of the list are empty, and no chamber of it is in the posting order. -/
theorem clearSlots_spec (s : State) (hturn : s.main.line.turn = none) : ∃ slots order, eachOf l clearSlot s = { s with
      main := { s.main with slots := slots, posting := order } } ∧
    (∀ o, look slots o = if o ∈ l then clearedSlot else s.slot o) ∧ ∀ o ∈ order, o ∈ s.main.posting ∧ o ∉ l := by
  induction l generalizing s with
  | nil => exact ⟨_, _, rfl, fun _ => rfl, fun o ho => ⟨ho, List.not_mem_nil⟩⟩
  | cons c l ih =>
    obtain ⟨turn, hor, hclear⟩ := clearSlot_spec c s
    have hnone : turn = s.main.line.turn := hor.elim id fun h => h.trans hturn.symm
    have hclear : clearSlot c s = { s with main := { s.main with
        slots := put s.main.slots c clearedSlot, posting := s.main.posting.filter (· ≠ c) } } := by
      rw [hclear, hnone]
    obtain ⟨slots, order, heq, hslots, horder⟩ := ih (clearSlot c s) (by rw [hclear]; exact hturn)
    refine ⟨slots, order, ?_, fun o => ?_, fun o ho => ?_⟩
    · rw [eachOf_cons, heq, hclear]
    · have hone : (clearSlot c s).slot o = if o = c then clearedSlot else s.slot o := by
        rw [hclear]; exact look_put ..
      rw [hslots, hone]
      by_cases hol : o ∈ l <;> by_cases hoc : o = c <;> simp [hol, hoc]
    · obtain ⟨hmem, hno⟩ := horder o ho
      rw [hclear] at hmem
      have hmem := List.mem_filter.1 hmem
      exact ⟨hmem.1, by simpa [hno] using hmem.2⟩

theorem clearInflights_spec (l : List StationNo) (s : State) (hturn : s.main.line.turn = none) : ∃ inflight,
    eachOf l clearInflight s = { s with main := { s.main with sched := { s.main.sched with inflight := inflight } } } ∧
    ∀ st, look inflight st = if st ∈ l then none else look s.main.sched.inflight st := by
  induction l generalizing s with
  | nil => exact ⟨_, rfl, fun _ => rfl⟩
  | cons c l ih =>
    obtain ⟨turn, hor, hclear⟩ := clearInflight_spec c s
    have hnone : turn = s.main.line.turn := hor.elim id fun h => h.trans hturn.symm
    have hclear : clearInflight c s = { s with main := { s.main with
        sched := { s.main.sched with inflight := put s.main.sched.inflight c none } } } := by
      rw [hclear, hnone]
    obtain ⟨inflight, heq, hall⟩ := ih (clearInflight c s) (by rw [hclear]; exact hturn)
    refine ⟨inflight, ?_, fun st => ?_⟩
    · rw [eachOf_cons, heq, hclear]
    · have hone : look (clearInflight c s).main.sched.inflight st = if st = c then none else look s.main.sched.inflight st := by
        rw [hclear]; exact look_put ..
      rw [hall, hone]
      by_cases hol : st ∈ l <;> by_cases hoc : st = c <;> simp [hol, hoc]

end

/-- Step 2 of R154 on a free line. -/
theorem resetChambers_spec {s : State} (hturn : s.main.line.turn = none) : ∃ chambers slots sched outbox,
    resetChambers s = { s with
      ret := { s.ret with chambers := chambers }
      main := { s.main with
        slots := slots, posting := [], sched := sched, host := { s.main.host with outbox := outbox } } } ∧
    (∀ c, look chambers c =
      { s.chamber c with access := if (s.chamber c).config.isSome = true then .offline else s.access c }) ∧
    (∀ c, look slots c = clearedSlot) ∧ (∀ st, look sched.inflight st = none) ∧
    ∀ c, (s.chamber c).config.isSome = true → s.access c ≠ .offline → look sched.owed c = false := by
  have hchamber := chamber_offline (configured s) s
  have howed := fun o => owed_offline (configured s) s (o := o)
  obtain ⟨chambers, sched, outbox, hoff⟩ := offline_rest (configured s) s
  rw [hoff] at hchamber
  rw [hoff] at howed
  obtain ⟨slots, order, hslot, hslots, horder⟩ := clearSlots_spec (indexes 64)
    (eachOf (configured s) (setAccess · .offline) s) (by rw [hoff]; exact hturn)
  obtain ⟨inflight, hinf, hnone⟩ := clearInflights_spec (indexes 16)
    (eachOf (indexes 64) clearSlot (eachOf (configured s) (setAccess · .offline) s)) (by rw [hslot, hoff]; exact hturn)
  have horder : order = [] := List.eq_nil_iff_forall_not_mem.2 fun o ho => (horder o ho).2 (mem_indexes o)
  refine ⟨chambers, slots, { sched with inflight := inflight }, outbox, ?_, fun c => ?_, fun c => ?_, fun st => ?_,
    fun c hc hacc => ?_⟩
  · rw [resetChambers_eq, hinf, hslot, hoff, horder]
  · refine (hchamber c).trans ?_
    simp only [mem_configured]
  · rw [hslots, if_pos (mem_indexes c)]
  · exact (hnone st).trans (if_pos (mem_indexes st))
  · exact howed c (mem_configured.2 hc) hacc

/-! ## Every visit EXPIRED (R154, step 4) -/

/-- No chamber is LOCKING or LOCKED. -/
def Unlocked (s : State) : Prop := ∀ c, lockedUp (s.access c) = false

theorem VisitStep.unlocked {s t : State} (h : VisitStep s t) (hs : Unlocked s) : Unlocked t := by
  obtain ⟨_, _, _, _, _, _, rfl⟩ := h
  exact hs

/-- Where no chamber is LOCKING or LOCKED, a close rewrites the entries of unfinished chambers alone (R130). -/
theorem closeInvolved_of_unlocked {s : State} (h : Unlocked s) (i : Involved) : closeInvolved i s =
    if i.phase.final = true then s else entryWaits i.chamber (decide (i.phase ≠ .lifted)) s := by
  split
  · next hf => exact closeInvolved_of_final hf
  · next hf =>
    by_cases hl : i.phase = .lifted
    · rw [closeInvolved_of_lifted hl, hl]; rfl
    · rw [closeInvolved_of_gone (Bool.eq_false_iff.2 hf) hl (h i.chamber), decide_eq_true hl]

theorem closeInvolved_visitStep {s : State} (h : Unlocked s) (i : Involved) : VisitStep s (closeInvolved i s) := by
  rw [closeInvolved_of_unlocked h]
  split
  · exact .refl s
  · exact (entryWaits_step ..).visitStep

theorem closing_visitStep {s : State} (h : Unlocked s) (l : List Involved) :
    VisitStep s (eachOf l closeInvolved s) := by
  induction l generalizing s with
  | nil => exact .refl s
  | cons i l ih =>
    have hone := closeInvolved_visitStep h i
    exact hone.trans (ih (hone.unlocked h))

/-- The entry of a chamber after the close of a visit that has it unfinished, where no chamber is taken back. -/
def Entry.expired (ph : Phase) (e : Entry) : Entry := waited (decide (ph ≠ .lifted)) e

theorem expired_eq (ph : Phase) (e : Entry) : e.expired ph = if ph = .lifted then { e with state := .waiting }
    else { e with state := .waiting, skips := min 15 (e.skips + 1)
                  urgency := if e.skips = 2 then .urgent else e.urgency } := by
  by_cases hl : ph = .lifted <;> simp [Entry.expired, waited, hl]

section
variable {s : State} (h : (sheet s).Tidy) (hun : Unlocked s)
include h hun

theorem roundEntry_closeInvolved_of_unlocked (i : Involved) (o : ChamberNo) : (closeInvolved i s).roundEntry o =
    if o = i.chamber ∧ i.phase.final = false then (s.roundEntry o).map (Entry.expired i.phase) else s.roundEntry o := by
  rw [closeInvolved_of_unlocked hun]
  cases hf : i.phase.final with
  | true => simp
  | false =>
    rw [if_neg Bool.false_ne_true, roundEntry_entryWaits h]
    by_cases ho : o = i.chamber
    · subst ho
      rw [if_pos rfl, if_pos ⟨rfl, rfl⟩]
      rfl
    · rw [if_neg ho, if_neg fun hp => ho hp.1]

/-- A visit that names a chamber in final phases alone, or not at all, leaves its entry. -/
theorem roundEntry_closing_of_settled {l : List Involved} {o : ChamberNo}
    (hl : ∀ i ∈ l, i.chamber = o → i.phase.final = true) : (eachOf l closeInvolved s).roundEntry o = s.roundEntry o := by
  refine (eachOf_keeps_of (f := closeInvolved) (g := fun s : State => s.roundEntry o)
    (P := fun k s => (sheet s).Tidy ∧ Unlocked s ∧ ∀ i ∈ k, i.chamber = o → i.phase.final = true)
    (fun i k s ⟨ht, hu, hk⟩ => ⟨tidy_closeInvolved ht i, (closeInvolved_visitStep hu i).unlocked hu,
      fun j hj => hk j (List.mem_cons_of_mem i hj)⟩) (fun i k s ⟨ht, hu, hk⟩ => ?_) ⟨h, hun, hl⟩).1
  rw [roundEntry_closeInvolved_of_unlocked ht hu, if_neg fun hp => ?_]
  have hf := hk i List.mem_cons_self hp.1.symm
  rw [hp.2] at hf
  cases hf

/-- An unfinished chamber's entry is WAITING after the close of its visit (R114). -/
theorem roundEntry_closing_of_unfinished {l : List Involved} (hl : (l.map (·.chamber)).Nodup) {i : Involved} (hi : i ∈ l)
    (hf : i.phase.final = false) : (eachOf l closeInvolved s).roundEntry i.chamber =
      (s.roundEntry i.chamber).map (Entry.expired i.phase) := by
  refine eachOf_changes_of (f := closeInvolved) (g := fun s : State => s.roundEntry i.chamber)
    (G := Option.map (Entry.expired i.phase))
    (P := fun k s => (sheet s).Tidy ∧ Unlocked s ∧ ∀ j ∈ k, j ∈ l)
    (fun j k s ⟨ht, hu, hk⟩ => ⟨tidy_closeInvolved ht j, (closeInvolved_visitStep hu j).unlocked hu,
      fun x hx => hk x (List.mem_cons_of_mem j hx)⟩) (fun j k s hji ⟨ht, hu, hk⟩ => ?_) (fun k s ⟨ht, hu, _⟩ => ?_)
    (List.Nodup.of_map _ hl) hi ⟨h, hun, fun _ hx => hx⟩
  · rw [roundEntry_closeInvolved_of_unlocked ht hu, if_neg fun hp => hji ?_]
    exact List.inj_on_of_nodup_map hl (hk j List.mem_cons_self) hi hp.1.symm
  · rw [roundEntry_closeInvolved_of_unlocked ht hu, if_pos ⟨rfl, hf⟩]

end

/-! ## The visits one after the other -/

/-- A choice among places takes one of them, and counts. -/
theorem pickFree_spec {α : Type} (l : List α) (s : State) : (l = [] ∧ pickFree l s = (none, s)) ∨
    ∃ x ∈ l, ∃ n, pickFree l s = (some x, { s with freeCount := n }) := by
  cases l with
  | nil => exact .inl ⟨rfl, rfl⟩
  | cons x rest =>
    cases rest with
    | nil => exact .inr ⟨x, List.mem_cons_self, _, rfl⟩
    | cons y rest =>
      refine .inr ⟨_, ?_, _, rfl⟩
      have hlt : Config.freeChoice s.freeCount % ((y :: rest).length + 1) < (x :: y :: rest).length := Nat.mod_lt _ (Nat.succ_pos _)
      rw [List.getD_eq_getElem _ _ hlt]
      exact List.getElem_mem hlt

/-- What holds before, is kept by each close and does not depend on the count of the choices, holds after all closes. -/
theorem expireVisits_keeps {P : State → Prop} (hchoice : ∀ s n, P s → P { s with freeCount := n })
    (hclose : ∀ s p v, P s → look s.ret.visits p = some v → P (closeVisit p .expired s)) (n : Nat) {s : State} (h : P s) :
    P (expireVisits n s) := by
  induction n generalizing s with
  | zero => exact h
  | succ n ih =>
    rcases pickFree_spec ((indexes 4).filter fun p => (look s.ret.visits p).isSome) s with ⟨-, hpick⟩ | ⟨p, hp, k, hpick⟩
    · simpa only [expireVisits, hpick] using h
    · obtain ⟨v, hv⟩ := Option.isSome_iff_exists.1 (by simpa using (List.mem_filter.1 hp).2)
      simpa only [expireVisits, hpick] using ih (hclose _ p v (hchoice s k h) hv)

/-- A close empties the visit's place and writes its summary (R130). -/
theorem closeVisit_tables {s : State} {p : Fin 4} {v : Visit} (hv : look s.ret.visits p = some v) (o : VisitOutcome) :
    (closeVisit p o s).ret.visits = put s.ret.visits p none ∧
    (closeVisit p o s).ret.summaries = put s.ret.summaries v.station (some (summaryOf v o s.now)) := by
  have hret := closing_ret v.involved s
  have hvisits := congrArg (fun r : Retained => put r.visits p none) hret
  have hsummaries := congrArg (fun r : Retained => put r.summaries v.station (some (summaryOf v o r.clock.part))) hret
  rw [closeVisit_eq hv]
  exact ⟨hvisits, hsummaries⟩

theorem closeVisit_visitStep {s : State} (h : Unlocked s) {p : Fin 4} {v : Visit} (hv : look s.ret.visits p = some v)
    (o : VisitOutcome) : VisitStep s (closeVisit p o s) := by
  rw [closeVisit_eq hv]
  exact (closing_visitStep h _).trans (visitRecorded_visitStep ..)

/-- No place holds a visit once as many closes as there are visits have had their turn. -/
theorem visits_expireVisits {n : Nat} {s : State} (h : countWhere Option.isSome s.ret.visits ≤ n) (p : Fin 4) :
    look (expireVisits n s).ret.visits p = none := by
  have hpos {s : State} {q : Fin 4} (hq : (look s.ret.visits q).isSome = true) :
      0 < countWhere Option.isSome s.ret.visits := by
    rw [countWhere_eq_indexes, List.countP_pos_iff]
    exact ⟨q, mem_indexes q, hq⟩
  induction n generalizing s with
  | zero =>
    by_contra hne
    have hsome : 0 < countWhere Option.isSome s.ret.visits := hpos (Option.isSome_iff_ne_none.2 hne)
    omega
  | succ n ih =>
    rcases pickFree_spec ((indexes 4).filter fun p => (look s.ret.visits p).isSome) s with ⟨hnil, hpick⟩ | ⟨q, hq, k, hpick⟩
    · simp only [expireVisits, hpick]
      by_contra hne
      have hmem : p ∈ (indexes 4).filter fun p => (look s.ret.visits p).isSome :=
        List.mem_filter.2 ⟨mem_indexes p, Option.isSome_iff_ne_none.2 hne⟩
      rw [hnil] at hmem
      cases hmem
    · have hsome : (look s.ret.visits q).isSome = true := by simpa using (List.mem_filter.1 hq).2
      obtain ⟨v, hv⟩ := Option.isSome_iff_exists.1 hsome
      simp only [expireVisits, hpick]
      refine ih ?_
      have hcount := hpos hsome
      rw [(closeVisit_tables (s := { s with freeCount := k }) hv .expired).1, countWhere_put, hsome]
      simp
      omega

/-- What the closes leave: the open visits are among those before, and each closed one has its summary (R130). -/
structure Expiring (s t : State) : Prop where
  step : VisitStep s t
  old : ∀ q w, look t.ret.visits q = some w → look s.ret.visits q = some w
  recorded : ∀ p v, look s.ret.visits p = some v → look t.ret.visits p = some v ∨
    ∃ m, look t.ret.summaries v.station = some m ∧ m.crew = v.crew ∧ m.outcome = .expired ∧ m.closed = s.now

section
variable {s : State} (hun : Unlocked s) (hone : ∀ (p q : Fin 4) (v w : Visit),
  look s.ret.visits p = some v → look s.ret.visits q = some w → v.station = w.station → p = q)
include hun hone

theorem Expiring.next {t : State} (h : Expiring s t) {q : Fin 4} {w : Visit} (hw : look t.ret.visits q = some w) :
    Expiring s (closeVisit q .expired t) := by
  obtain ⟨hvisits, hsummaries⟩ := closeVisit_tables hw .expired
  have hnow : t.now = s.now := by
    obtain ⟨_, _, _, _, _, _, hst⟩ := h.step
    rw [hst]; rfl
  refine ⟨h.step.trans (closeVisit_visitStep (h.step.unlocked hun) hw _), fun p v hv => ?_, fun p v hv => ?_⟩
  · rw [hvisits, look_put] at hv
    split at hv
    · cases hv
    · exact h.old p v hv
  · rw [hvisits, hsummaries, look_put, look_put]
    by_cases hpq : p = q
    · subst hpq
      obtain rfl : v = w := Option.some.inj (hv.symm.trans (h.old p w hw))
      exact .inr ⟨_, if_pos rfl, rfl, rfl, hnow⟩
    · have hst : v.station ≠ w.station := fun hst => hpq (hone p q v w hv (h.old q w hw) hst)
      rw [if_neg hpq, if_neg hst]
      exact h.recorded p v hv

theorem expiring_expireVisits (n : Nat) : Expiring s (expireVisits n s) := by
  refine expireVisits_keeps (P := Expiring s) (fun t k h => ?_) (fun t p v h hv => h.next hun hone hv) n
    ⟨.refl s, fun _ _ h => h, fun _ _ h => .inl h⟩
  exact ⟨h.step.trans ⟨_, _, _, _, _, _, rfl⟩, h.old, h.recorded⟩

end

/-- An unfinished chamber of one visit, which every other visit has settled, has its entry WAITING at the end (R114). -/
theorem roundEntry_expireVisits {s : State} (h : (sheet s).Tidy) (hun : Unlocked s) {p : Fin 4} {v : Visit} {i : Involved}
    {e : Entry} (hv : look s.ret.visits p = some v) (hi : i ∈ v.involved) (hf : i.phase.final = false)
    (hnodup : (v.involved.map (·.chamber)).Nodup) (hothers : ∀ q w, q ≠ p → look s.ret.visits q = some w →
      ∀ j ∈ w.involved, j.chamber = i.chamber → j.phase.final = true)
    (he : s.roundEntry i.chamber = some e) (n : Nat) (hn : look (expireVisits n s).ret.visits p = none) :
    (expireVisits n s).roundEntry i.chamber = some (e.expired i.phase) := by
  have hend := expireVisits_keeps (P := fun t => (sheet t).Tidy ∧ Unlocked t ∧
    (∀ q w, look t.ret.visits q = some w → look s.ret.visits q = some w) ∧
    t.roundEntry i.chamber = some (if look t.ret.visits p = none then e.expired i.phase else e))
    (fun _ _ ht => ht) (fun t q w ⟨ht, hu, hold, hentry⟩ hw => ?_) n
    ⟨h, hun, fun _ _ h => h, by rw [he, if_neg (by rw [hv]; exact Option.some_ne_none v)]⟩
  · obtain ⟨-, -, -, hentry⟩ := hend
    rwa [if_pos hn] at hentry
  · obtain ⟨hvisits, -⟩ := closeVisit_tables hw .expired
    have hsheet : sheet (closeVisit q .expired t) = sheet (eachOf w.involved closeInvolved t) := by
      rw [closeVisit_eq hw]; rfl
    refine ⟨tidy_closeVisit ht q .expired, (closeVisit_visitStep hu hw _).unlocked hu, fun r x hx => ?_, ?_⟩
    · rw [hvisits, look_put] at hx
      split at hx
      · cases hx
      · exact hold r x hx
    · rw [roundEntry_of_sheet hsheet, hvisits, look_put]
      by_cases hpq : p = q
      · subst hpq
        obtain rfl : w = v := Option.some.inj ((hold p w hw).symm.trans hv)
        rw [if_pos rfl, if_pos rfl, roundEntry_closing_of_unfinished ht hu hnodup hi hf, hentry, hw,
          if_neg (Option.some_ne_none w)]
        rfl
      · rw [if_neg hpq, roundEntry_closing_of_settled ht hu (hothers q w (Ne.symm hpq) (hold q w hw))]
        exact hentry

/-! ## The line after the reset (R154, steps 6 and 7, R170) -/

/-- A census requested where none is RUNNING: at once in ACTIVE and PREPARING, with the return to ACTIVE otherwise. -/
def Census.afterReset (p : PowerState) (k : Census) : Census :=
  if p = .active ∨ p = .preparing then { k with state := .pending } else k

theorem Census.afterReset_state (p : PowerState) (k : Census) : (k.afterReset p).state =
    if p = .active ∨ p = .preparing then .pending else k.state := by
  unfold Census.afterReset; split <;> rfl

theorem Census.afterReset_kept (p : PowerState) (k : Census) : (k.afterReset p).kept = k.kept := by
  unfold Census.afterReset; split <;> rfl

/-- The power record after a reset in a power state (R170). -/
def powerAfterReset (p : PowerState) (s : State) : Power :=
  match p with
  | .active => { s.main.line.power with quiet := quietFrom s.ret.settings s.elapsed }
  | .preparing => { s.main.line.power with
      state := .active, cause := .reset, changed := s.now, quiet := quietFrom s.ret.settings s.elapsed }
  | .dormant => woken .reset s
  | .waking => s.main.line.power

section
variable {s : State} {p : PowerState} (hp : s.main.line.power.state = p)
include hp

theorem resetFollow_eq (h : s.main.line.census.state ≠ .running) : resetFollow s = { s with main := { s.main with
    line := { s.main.line with dropDue := true, census := s.main.line.census.afterReset p } } } := by
  have hrequest : requestCensus (s.onLine fun l => { l with dropDue := true }) =
      (s.onLine fun l => { l with dropDue := true }).onCensus fun k => { k with state := .pending } := by
    unfold requestCensus State.onCensus State.onLine State.onMain
    dsimp only
    split
    · next hrun => exact absurd hrun h
    · rfl
  unfold resetFollow
  dsimp only
  rw [hrequest]
  have hp' : (s.onLine fun l => { l with dropDue := true }).main.line.power.state = p := hp
  rw [hp']
  cases p <;> rfl

theorem resetPower_spec : ∃ outbox, resetPower s = { s with main := { s.main with
    line := { s.main.line with power := powerAfterReset p s }, host := { s.main.host with outbox := outbox } } } := by
  unfold resetPower
  rw [hp]
  cases p <;> exact ⟨_, rfl⟩

end

/-- The (NODE, address) key of an address that was in the table. -/
def noticeOf (old : Vector (Option LineEntry) 16) (a : AddrNo) (s : State) : State :=
  match look old a with
  | some e => postNode a e.serial s
  | none => s

theorem resetNotices_eq (old : Vector (Option LineEntry) 16) (s : State) :
    resetNotices old s = eachOf (indexes 16) (noticeOf old) (post .line (resetPower (resetFollow s))) := rfl

theorem noticeOf_spec (old : Vector (Option LineEntry) 16) (a : AddrNo) (s : State) : ∃ outbox,
    noticeOf old a s = { s with main := { s.main with host := { s.main.host with outbox := outbox } } } := by
  unfold noticeOf; split <;> exact ⟨_, rfl⟩

theorem notices_spec (old : Vector (Option LineEntry) 16) (l : List AddrNo) (s : State) : ∃ outbox,
    eachOf l (noticeOf old) s = { s with main := { s.main with host := { s.main.host with outbox := outbox } } } := by
  induction l generalizing s with
  | nil => exact ⟨_, rfl⟩
  | cons a l ih =>
    obtain ⟨_, h⟩ := noticeOf_spec old a s
    obtain ⟨outbox, hl⟩ := ih (noticeOf old a s)
    exact ⟨outbox, by rw [eachOf_cons, hl, h]⟩

theorem posted_notices {k : Key} (old : Vector (Option LineEntry) 16) (l : List AddrNo) {s : State} (h : posted k s) :
    posted k (eachOf l (noticeOf old) s) := by
  induction l generalizing s with
  | nil => exact h
  | cons a l ih =>
    have hone : posted k (noticeOf old a s) := by
      unfold noticeOf
      split
      · exact posted_postWith_of_posted h ..
      · exact h
    exact ih hone

theorem posted_node_notices (old : Vector (Option LineEntry) 16) {l : List AddrNo} {a : AddrNo} (ha : a ∈ l)
    (hsome : (look old a).isSome = true) (s : State) : posted (.node a) (eachOf l (noticeOf old) s) := by
  induction l generalizing s with
  | nil => cases ha
  | cons b l ih =>
    by_cases hab : a = b
    · subst hab
      obtain ⟨e, he⟩ := Option.isSome_iff_exists.1 hsome
      have hone : noticeOf old a s = postNode a e.serial s := by unfold noticeOf; rw [he]
      have hposted : posted (.node a) (noticeOf old a s) := by rw [hone]; exact posted_postNode ..
      exact posted_notices old l hposted
    · exact ih ((List.mem_cons.1 ha).resolve_left hab) _

/-- Steps 6 and 7 of R154 where no census is RUNNING. -/
theorem resetNotices_spec (old : Vector (Option LineEntry) 16) {s : State} {p : PowerState}
    (hp : s.main.line.power.state = p) (h : s.main.line.census.state ≠ .running) :
    ∃ outbox, resetNotices old s = { s with main := { s.main with
      line := { s.main.line with
        dropDue := true, census := s.main.line.census.afterReset p, power := powerAfterReset p s }
      host := { s.main.host with outbox := outbox } } } := by
  have hfollow := resetFollow_eq hp h
  obtain ⟨_, hpower⟩ := resetPower_spec (s := resetFollow s) (p := p) (by rw [hfollow]; exact hp)
  have hrecord : powerAfterReset p (resetFollow s) = powerAfterReset p s := by rw [hfollow]; cases p <;> rfl
  obtain ⟨outbox, hnotices⟩ := notices_spec old (indexes 16) (post .line (resetPower (resetFollow s)))
  refine ⟨outbox, ?_⟩
  rw [resetNotices_eq, hnotices, hpower, hrecord, hfollow]
  rfl

theorem posted_resetNotices (old : Vector (Option LineEntry) 16) (s : State) : posted .line (resetNotices old s) ∧
    ∀ a, (look old a).isSome = true → posted (.node a) (resetNotices old s) :=
  ⟨posted_notices old _ (posted_post ..), fun a ha => posted_node_notices old (mem_indexes a) ha _⟩

/-! ## The whole reset -/

/-- The part with every chamber OFFLINE and every session closed (R154, steps 1 to 3). -/
def resetDesks (s : State) : State := closeAll (indexes 64) (resetChambers (resetTurns s))

section
variable (s : State)

theorem dark_resetChambers (c : ChamberNo) : Dark c (resetChambers (resetTurns s)) := by
  obtain ⟨chambers, _, _, _, h, hchamber, -⟩ := resetChambers_spec (s := resetTurns s) rfl
  unfold Dark State.access State.chamber
  rw [h]
  dsimp only
  rw [hchamber]
  cases hg : ((resetTurns s).chamber c).config with
  | none => exact .inl rfl
  | some g => exact .inr rfl

/-- What steps 1 to 3 make of each chamber. -/
theorem desk_resetDesks (c : ChamberNo) : (resetDesks s).chamber c =
      { s.chamber c with access := if (s.chamber c).config.isSome = true then .offline else s.access c }.counted
        (s.session c).isSome ∧
    (resetDesks s).session c = none ∧ (resetDesks s).slot c = clearedSlot ∧ (resetDesks s).main.posting = [] := by
  obtain ⟨chambers, slots, _, _, h, hchamber, hslots, -⟩ := resetChambers_spec (s := resetTurns s) rfl
  have hdark := fun c (_ : c ∈ indexes 64) => dark_resetChambers s c
  obtain ⟨hch, hses⟩ := desk_closeAll_of_mem hdark (List.nodup_finRange 64) (mem_indexes c)
  obtain ⟨hsl, hpost⟩ := slots_closeAll hdark fun c _ => by rw [State.slot, h]; exact congrArg CommandSlot.pending (hslots c)
  have hold : (resetChambers (resetTurns s)).chamber c =
      { s.chamber c with access := if (s.chamber c).config.isSome = true then .offline else s.access c } := by
    rw [State.chamber, h]; exact hchamber c
  have hsession : (resetChambers (resetTurns s)).session c = s.session c := by rw [State.session, h]; rfl
  have hposting : (resetChambers (resetTurns s)).main.posting = [] := by rw [h]
  rw [hold, hsession] at hch
  rw [resetDesks]
  refine ⟨hch, hses, ?_, hpost.trans hposting⟩
  exact (congrArg (look · c) hsl).trans ((congrArg (fun t : State => look t.main.slots c) h).trans (hslots c))

theorem unlocked_resetDesks (h : ∀ c, (s.chamber c).config = none ↔ s.access c = .unconfigured) : Unlocked (resetDesks s) := by
  intro c
  rw [State.access, (desk_resetDesks s c).1]
  show lockedUp (if (s.chamber c).config.isSome = true then .offline else s.access c) = false
  split
  · rfl
  · next hg => rw [(h c).1 (by simpa using hg)]; rfl

/-- What steps 1 to 3 leave. -/
theorem rest_resetDesks : ∃ sched, backdrop (resetDesks s) = ((backdrop s).1, (resetTurns s).main.line, sched) ∧
    (∀ st, look sched.inflight st = none) ∧
    ∀ c, (s.chamber c).config.isSome = true → s.access c ≠ .offline → look sched.owed c = false := by
  obtain ⟨_, _, sched, _, h, -, -, hinflight, howed⟩ := resetChambers_spec (s := resetTurns s) rfl
  refine ⟨sched, ?_, hinflight, howed⟩
  have hback := backdrop_closeAll (l := indexes 64) fun c _ => dark_resetChambers s c
  refine hback.trans ?_
  rw [h]
  rfl

theorem room_resetDesks : (resetDesks s).ret.journal.length = s.ret.journal.length + s.openSessions := by
  obtain ⟨_, _, _, _, h, -⟩ := resetChambers_spec (s := resetTurns s) rfl
  have hroom := room_closeAll (l := indexes 64) fun c _ => dark_resetChambers s c
  have hnone : (resetDesks s).openSessions = 0 := by
    rw [State.openSessions, countWhere_eq_indexes, List.countP_eq_zero]
    intro c _
    obtain ⟨-, hses, -, -⟩ := desk_resetDesks s c
    rw [State.session] at hses
    simp [hses]
  have hsame : (resetChambers (resetTurns s)).ret.journal.length + (resetChambers (resetTurns s)).openSessions =
      s.ret.journal.length + s.openSessions := by
    simp only [State.openSessions, h]
    rfl
  rw [resetDesks] at hnone ⊢
  rw [hnone] at hroom
  rw [← hsame, ← hroom, Nat.add_zero]

theorem roundEntry_resetDesks {s : State} (h : (sheet s).Tidy) {o : ChamberNo} {e : Entry} (he : s.roundEntry o = some e)
    (hw : e.state ≠ .waiting) : (resetDesks s).roundEntry o = some e := by
  have hsheet : sheet (resetChambers (resetTurns s)) = sheet s := by simp
  exact roundEntry_closeAll (by rwa [hsheet]) (fun c _ => dark_resetChambers s c) ((roundEntry_of_sheet hsheet o).trans he) hw

theorem tidy_resetDesks {s : State} (h : (sheet s).Tidy) : (sheet (resetDesks s)).Tidy := by
  have hsheet : sheet (resetChambers (resetTurns s)) = sheet s := by simp
  exact tidy_closeAll (by rwa [hsheet]) _

end

/-! ## What the steps keep -/

/-- The parts that the steps 2 to 4 of R154 leave as they are. -/
structure Kept (s t : State) : Prop where
  clock : t.ret.clock = s.ret.clock
  stations : t.ret.stations = s.ret.stations
  settings : t.ret.settings = s.ret.settings
  cards : t.ret.cards = s.ret.cards
  profiles : t.ret.profiles = s.ret.profiles
  line : t.main.line = s.main.line

theorem Kept.trans {s t u : State} (h : Kept s t) (k : Kept t u) : Kept s u :=
  ⟨k.clock.trans h.clock, k.stations.trans h.stations, k.settings.trans h.settings, k.cards.trans h.cards,
    k.profiles.trans h.profiles, k.line.trans h.line⟩

theorem VisitStep.kept {s t : State} (h : VisitStep s t) : Kept s t := by
  obtain ⟨_, _, _, _, _, _, rfl⟩ := h
  exact ⟨rfl, rfl, rfl, rfl, rfl, rfl⟩

/-- The parts that the steps 4 to 7 of R154 leave as they are. -/
structure SameDesks (s t : State) : Prop where
  chamber : ∀ c, t.chamber c = s.chamber c
  session : ∀ c, t.session c = s.session c
  slot : ∀ c, t.slot c = s.slot c
  posting : t.main.posting = s.main.posting
  sched : t.main.sched = s.main.sched
  journal : t.ret.journal = s.ret.journal

theorem VisitStep.sameDesks {s t : State} (h : VisitStep s t) : SameDesks s t := by
  obtain ⟨_, _, _, _, _, _, rfl⟩ := h
  exact ⟨fun _ => rfl, fun _ => rfl, fun _ => rfl, rfl, rfl, rfl⟩

section
variable {s t : State} {d : Scheduler} (h : backdrop t = ((backdrop s).1, (resetTurns s).main.line, d))
include h

theorem line_sched_of_backdrop : t.main.line = (resetTurns s).main.line ∧ t.main.sched = d :=
  ⟨congrArg (fun b => b.2.1) h, congrArg (fun b => b.2.2) h⟩

theorem visits_of_backdrop : t.ret.visits = s.ret.visits := by
  have hvisits := congrArg (fun b => b.1.visits) h
  exact hvisits

theorem kept_of_backdrop : Kept (resetTurns s) t := by
  have hclock := congrArg (fun b => b.1.clock) h
  have hstations := congrArg (fun b => b.1.stations) h
  have hsettings := congrArg (fun b => b.1.settings) h
  have hcards := congrArg (fun b => b.1.cards) h
  have hprofiles := congrArg (fun b => b.1.profiles) h
  exact ⟨hclock, hstations, hsettings, hcards, hprofiles, (line_sched_of_backdrop h).1⟩

end

theorem kept_resetDesks (s : State) : Kept (resetTurns s) (resetDesks s) := by
  obtain ⟨sched, hback, -⟩ := rest_resetDesks s
  exact kept_of_backdrop hback

theorem visits_resetDesks (s : State) : (resetDesks s).ret.visits = s.ret.visits := by
  obtain ⟨sched, hback, -⟩ := rest_resetDesks s
  exact visits_of_backdrop hback

/-- A station's record once it has lost its address (R154, step 5). -/
def Station.unaddressed (x : Station) : Station :=
  { x with address := none, missRun := 0, node := if x.serial.isSome then .offline else x.node }

/-- Steps 5 to 7 of R154 on a part that kept the line as step 1 left it. -/
theorem resetNotices_resetTable {s y : State} (h : Kept (resetTurns s) y) (old : Vector (Option LineEntry) 16) :
    ∃ outbox, resetNotices old (resetTable y) = { y with
      ret := { y.ret with stations := mapAll Station.unaddressed s.ret.stations }
      main := { y.main with
        host := { y.main.host with outbox := outbox }
        line := { (resetTurns s).main.line with
          table := Vector.replicate 16 none, withheld := Vector.replicate 16 false
          attention := { won := none, toggles := Vector.replicate 16 false }, dropDue := true
          census := (resetTurns s).main.line.census.afterReset s.main.line.power.state
          power := powerAfterReset s.main.line.power.state s } } } := by
  have hrec := congrArg (fun l : Line => l.power) h.line
  have hpower : (resetTable y).main.line.power.state = s.main.line.power.state := congrArg Power.state hrec
  have hcensus : (resetTable y).main.line.census.state ≠ .running := by
    have heq := congrArg (fun l : Line => l.census.state) h.line
    have hstate : (resetTable y).main.line.census.state =
        if s.main.line.census.state = .running then .idle else s.main.line.census.state := heq
    rw [hstate]
    split
    · exact CensusState.noConfusion
    · assumption
  obtain ⟨outbox, hreset⟩ := resetNotices_spec old hpower hcensus
  have hrecord : powerAfterReset s.main.line.power.state (resetTable y) = powerAfterReset s.main.line.power.state s := by
    have hline : (resetTable y).main.line.power = s.main.line.power := hrec
    have hclock : (resetTable y).ret.clock = s.ret.clock := h.clock
    have hsettings : (resetTable y).ret.settings = s.ret.settings := h.settings
    cases s.main.line.power.state <;> simp only [powerAfterReset, woken, State.elapsed, State.now, hline, hclock, hsettings]
  refine ⟨outbox, hreset.trans ?_⟩
  rw [hrecord]
  unfold resetTable State.onRet State.onLine State.onMain
  dsimp only
  rw [h.line, h.stations]
  rfl

/-- What the reset makes of the part, seen from the part with its visits closed. -/
theorem resetLine_spec (s : State) (h : Unlocked (resetDesks s)) : ∃ y outbox, y = expireVisits 4 (resetDesks s) ∧
    VisitStep (resetDesks s) y ∧ resetLine s = { y with
      ret := { y.ret with stations := mapAll Station.unaddressed s.ret.stations }
      main := { y.main with
        host := { y.main.host with outbox := outbox }
        line := { (resetTurns s).main.line with
          table := Vector.replicate 16 none, withheld := Vector.replicate 16 false
          attention := { won := none, toggles := Vector.replicate 16 false }, dropDue := true
          census := (resetTurns s).main.line.census.afterReset s.main.line.power.state
          power := powerAfterReset s.main.line.power.state s } } } := by
  have hstep : VisitStep (resetDesks s) (expireVisits 4 (resetDesks s)) :=
    (expireVisits_keeps (P := fun t => VisitStep (resetDesks s) t) (fun t n ht => ht.trans ⟨_, _, _, _, _, _, rfl⟩)
      (fun t p v ht hv => ht.trans (closeVisit_visitStep (ht.unlocked h) hv _)) 4 (.refl _))
  have hkept := (kept_resetDesks s).trans hstep.kept
  have heq : resetLine s = resetNotices s.main.line.table (resetTable (expireVisits 4 (resetDesks s))) := rfl
  obtain ⟨outbox, hnotices⟩ := resetNotices_resetTable hkept s.main.line.table
  exact ⟨_, outbox, rfl, hstep, heq.trans hnotices⟩

theorem countWhere_le {α : Type} {n : Nat} (p : α → Bool) (v : Vector α n) : countWhere p v ≤ n := by
  rw [countWhere_eq_indexes]
  exact (List.countP_le_length).trans (by simp [indexes])

section
variable {s : State} (h : Unlocked (resetDesks s))
include h

theorem resetLine_line : (resetLine s).main.line = { (resetTurns s).main.line with
    table := Vector.replicate 16 none, withheld := Vector.replicate 16 false
    attention := { won := none, toggles := Vector.replicate 16 false }, dropDue := true
    census := (resetTurns s).main.line.census.afterReset s.main.line.power.state
    power := powerAfterReset s.main.line.power.state s } := by
  obtain ⟨_, _, -, -, hspec⟩ := resetLine_spec s h
  rw [hspec]

theorem resetLine_desk : SameDesks (resetDesks s) (resetLine s) := by
  obtain ⟨_, _, -, hstep, hspec⟩ := resetLine_spec s h
  have hdesks := hstep.sameDesks
  rw [hspec]
  exact ⟨hdesks.chamber, hdesks.session, hdesks.slot, hdesks.posting, hdesks.sched, hdesks.journal⟩

theorem resetLine_station (st : StationNo) : (resetLine s).station st = (s.station st).unaddressed := by
  obtain ⟨_, _, -, -, hspec⟩ := resetLine_spec s h
  rw [hspec]
  exact look_mapAll ..

theorem resetLine_stores : (resetLine s).ret.cards = s.ret.cards ∧ (resetLine s).ret.profiles = s.ret.profiles ∧
    (resetLine s).ret.settings = s.ret.settings := by
  obtain ⟨y, _, -, hstep, hspec⟩ := resetLine_spec s h
  have hkept := (kept_resetDesks s).trans hstep.kept
  rw [hspec]
  exact ⟨hkept.cards, hkept.profiles, hkept.settings⟩

theorem resetLine_visits : (resetLine s).ret.visits = (expireVisits 4 (resetDesks s)).ret.visits ∧
    (resetLine s).ret.summaries = (expireVisits 4 (resetDesks s)).ret.summaries ∧
    ∀ c, (resetLine s).roundEntry c = (expireVisits 4 (resetDesks s)).roundEntry c := by
  obtain ⟨y, _, hy, -, hspec⟩ := resetLine_spec s h
  rw [hspec, ← hy]
  exact ⟨rfl, rfl, fun _ => rfl⟩

theorem resetLine_closed (p : Fin 4) : look (resetLine s).ret.visits p = none := by
  rw [(resetLine_visits h).1]
  exact visits_expireVisits (countWhere_le ..) p

theorem resetLine_summary (hone : ∀ (p q : Fin 4) (v w : Visit),
    look s.ret.visits p = some v → look s.ret.visits q = some w → v.station = w.station → p = q) {p : Fin 4} {v : Visit}
    (hv : look s.ret.visits p = some v) : ∃ m, look (resetLine s).ret.summaries v.station = some m ∧ m.crew = v.crew ∧
      m.outcome = .expired ∧ m.closed = s.now := by
  have hvisits := visits_resetDesks s
  have hexp := expiring_expireVisits h (by rw [hvisits]; exact hone) 4
  have hnow : (resetDesks s).now = s.now := congrArg Clock.part (kept_resetDesks s).clock
  obtain ⟨-, hsummaries, -⟩ := resetLine_visits h
  rw [hsummaries]
  rcases hexp.recorded p v (by rw [hvisits]; exact hv) with hopen | ⟨m, hm, hcrew, hout, hclosed⟩
  · rw [visits_expireVisits (countWhere_le ..) p] at hopen
    cases hopen
  · exact ⟨m, hm, hcrew, hout, hclosed.trans hnow⟩

theorem resetLine_entry (htidy : (sheet s).Tidy) {p : Fin 4} {v : Visit} {i : Involved} {e : Entry}
    (hv : look s.ret.visits p = some v) (hi : i ∈ v.involved) (hf : i.phase.final = false)
    (hnodup : (v.involved.map (·.chamber)).Nodup) (hothers : ∀ q w, q ≠ p → look s.ret.visits q = some w →
      ∀ j ∈ w.involved, j.chamber = i.chamber → j.phase.final = true)
    (he : s.roundEntry i.chamber = some e) (hw : e.state ≠ .waiting) :
    (resetLine s).roundEntry i.chamber = some (e.expired i.phase) := by
  have hvisits := visits_resetDesks s
  obtain ⟨-, -, hentry⟩ := resetLine_visits h
  rw [hentry]
  refine roundEntry_expireVisits (tidy_resetDesks htidy) h (p := p) (by rw [hvisits]; exact hv) hi hf hnodup ?_
    (roundEntry_resetDesks htidy he hw) 4 (visits_expireVisits (countWhere_le ..) p)
  rw [hvisits]
  exact hothers

theorem resetLine_inflight (st : StationNo) : look (resetLine s).main.sched.inflight st = none := by
  obtain ⟨sched, hback, hinflight, -⟩ := rest_resetDesks s
  rw [(resetLine_desk h).sched, (line_sched_of_backdrop hback).2]
  exact hinflight st

theorem resetLine_owed {c : ChamberNo} (hg : (s.chamber c).config.isSome = true) (hacc : s.access c ≠ .offline) :
    look (resetLine s).main.sched.owed c = false := by
  obtain ⟨sched, hback, -, howed⟩ := rest_resetDesks s
  rw [(resetLine_desk h).sched, (line_sched_of_backdrop hback).2]
  exact howed c hg hacc

theorem resetLine_chamber (c : ChamberNo) : (resetLine s).chamber c =
    { s.chamber c with access := if (s.chamber c).config.isSome = true then .offline else s.access c }.counted
      (s.session c).isSome :=
  ((resetLine_desk h).chamber c).trans (desk_resetDesks s c).1

end

/-- Settles O28: the reset runs in stages, each with what it leaves, and every clause is read off the stage that sets it. -/
theorem lineResetClearsTheLine : Obligations.LineResetClearsTheLine := by
  intro tag s htag hs hacc hvisit
  have hvdd := hs.1
  let z := queued tag .lineReset s
  have hun := unlocked_resetDesks z (hacc (.inl hvdd))
  have hone : ∀ (p q : Fin 4) (v w : Visit),
    look z.ret.visits p = some v → look z.ret.visits q = some w → v.station = w.station → p = q := hvisit (.inl hvdd)
  have hline := resetLine_line hun
  have hpower : (resetLine z).main.line.power = powerAfterReset s.main.line.power.state z := by rw [hline]; rfl
  have hdesks := resetLine_desk hun
  have hchamber := resetLine_chamber hun
  have hstation := resetLine_station hun
  obtain ⟨hcards, hprofiles, hsettings⟩ := resetLine_stores hun
  obtain ⟨hposted, hnodes⟩ := posted_resetNotices z.main.line.table (resetTable (expireVisits 4 (resetDesks z)))
  refine ⟨resetLine z, exec_of_ready rfl htag hs rfl, ?_⟩
  refine ⟨?_, ?_, ?_, ?_, ?_, fun a => ⟨?_, ?_, ?_⟩, fun c hg => ⟨?_, resetLine_owed hun hg⟩,
    fun c => ⟨?_, ?_, ?_, ?_, ?_⟩, ?_, fun st => ⟨resetLine_inflight hun st, ?_, ?_, ?_, fun hserial => ?_⟩, ?_,
    resetLine_closed hun, fun p v hv => resetLine_summary hun hone hv,
    fun hlaw p v i e hv hi hf hnodup hothers he hw => ?_, hcards, hprofiles, hsettings, hposted, hnodes,
    fun hp => ?_, fun hp => ⟨?_, ?_⟩, fun hp => ⟨?_, ?_, ?_⟩, fun hp => ?_⟩
  · rw [hline]; rfl
  · rw [hline]
  · rw [hline]
    exact Census.afterReset_state ..
  · rw [hline]
    exact Census.afterReset_kept ..
  · rw [hline]
  · rw [State.entry, hline]; exact look_replicate ..
  · rw [hline]; exact look_replicate ..
  · rw [hline]; exact look_replicate ..
  · rw [State.access, hchamber]; exact if_pos hg
  · rw [hchamber]; rfl
  · rw [hchamber]; rfl
  · obtain ⟨-, -, hslot, -⟩ := desk_resetDesks z c
    exact (hdesks.slot c).trans hslot
  · obtain ⟨-, hsession, -, -⟩ := desk_resetDesks z c
    exact (hdesks.session c).trans hsession
  · rw [hchamber]; rfl
  · obtain ⟨-, -, -, hposting⟩ := desk_resetDesks z 0
    exact hdesks.posting.trans hposting
  · rw [hstation]; rfl
  · rw [hstation]; rfl
  · rw [hstation]; rfl
  · rw [hstation]; exact if_pos hserial
  · rw [hdesks.journal]; exact room_resetDesks z
  · rw [resetLine_entry hun ((roundLaw_iff.1 hlaw) (.inl hvdd)) hv hi hf hnodup hothers he hw, expired_eq]
  · exact hpower.trans (by rw [hp]; rfl)
  · rw [hpower, hp]; rfl
  · rw [hpower, hp]; rfl
  · rw [hpower, hp]; rfl
  · rw [hpower, hp]; rfl
  · rw [hpower, hp]; rfl
  · exact hpower.trans (by rw [hp]; rfl)

end Sys2Proof.Machine
end
